-- ==== Sys2Proof/Word.lean ====
section
/-! DEFINITION. The word types: bytes and 12-bit program addresses (R5, R7, R128). -/

namespace Sys2Proof

/-- The word, accumulator and register width (R5). -/
abbrev Byte := BitVec 8

/-- A 12-bit program address (R5, R60). -/
abbrev Addr := BitVec 12

end Sys2Proof
end

