-- ==== Sys2Proof/Syntax.lean ====
section
/-! DEFINITION. Instructions as syntax: one constructor of `Instr` for each of the 126 rows of
`spec/opcode_table.json`. Operands are the fields of R92: `r` a register number (0..7) or a pointer register
number (0..1), `data` an immediate byte, `addr8` the low byte of a jump target, `aHi` the three opcode bits of a
JMP or CALL target, `b` an accumulator bit number, `p` the number of an expander port (4..7, see `WellFormed`). -/

namespace Sys2Proof

/-- The instructions of `spec/opcode_table.json`. -/
inductive Instr where
  -- Arithmetic instructions
  /-- `ADD A,Rr` (R121). -/
  | addAR (r : Fin 8)
  /-- `ADD A,@Rr` (R122). -/
  | addAInd (r : Fin 2)
  /-- `ADD A,#data` (R123). -/
  | addAImm (data : Byte)
  /-- `ADDC A,Rr` (R124). -/
  | addcAR (r : Fin 8)
  /-- `ADDC A,@Rr` (R125). -/
  | addcAInd (r : Fin 2)
  /-- `ADDC A,#data` (R126). -/
  | addcAImm (data : Byte)
  /-- `DA A` (R127). -/
  | daA
  -- Logic instructions
  /-- `ANL A,Rr` (R140). -/
  | anlAR (r : Fin 8)
  /-- `ANL A,@Rr` (R141). -/
  | anlAInd (r : Fin 2)
  /-- `ANL A,#data` (R142). -/
  | anlAImm (data : Byte)
  /-- `ORL A,Rr` (R143). -/
  | orlAR (r : Fin 8)
  /-- `ORL A,@Rr` (R144). -/
  | orlAInd (r : Fin 2)
  /-- `ORL A,#data` (R145). -/
  | orlAImm (data : Byte)
  /-- `XRL A,Rr` (R146). -/
  | xrlAR (r : Fin 8)
  /-- `XRL A,@Rr` (R147). -/
  | xrlAInd (r : Fin 2)
  /-- `XRL A,#data` (R148). -/
  | xrlAImm (data : Byte)
  /-- `CLR A` (R149). -/
  | clrA
  /-- `CPL A` (R150). -/
  | cplA
  -- Move and exchange instructions
  /-- `MOV A,Rr` (R160). -/
  | movAR (r : Fin 8)
  /-- `MOV A,@Rr` (R161). -/
  | movAInd (r : Fin 2)
  /-- `MOV A,#data` (R162). -/
  | movAImm (data : Byte)
  /-- `MOV Rr,A` (R163). -/
  | movRA (r : Fin 8)
  /-- `MOV @Rr,A` (R164). -/
  | movIndA (r : Fin 2)
  /-- `MOV Rr,#data` (R165). -/
  | movRImm (r : Fin 8) (data : Byte)
  /-- `MOV @Rr,#data` (R166). -/
  | movIndImm (r : Fin 2) (data : Byte)
  /-- `XCH A,Rr` (R167). -/
  | xchAR (r : Fin 8)
  /-- `XCH A,@Rr` (R168). -/
  | xchAInd (r : Fin 2)
  /-- `XCHD A,@Rr` (R169). -/
  | xchdAInd (r : Fin 2)
  /-- `SWAP A` (R170). -/
  | swapA
  /-- `MOVP A,@A` (R171). -/
  | movpAAtA
  /-- `MOVP3 A,@A` (R172). -/
  | movp3AAtA
  /-- `MOVX A,@Rr` (R173). -/
  | movxAInd (r : Fin 2)
  -- Increment, decrement and rotate instructions
  /-- `INC A` (R180). -/
  | incA
  /-- `DEC A` (R181). -/
  | decA
  /-- `INC Rr` (R182). -/
  | incR (r : Fin 8)
  /-- `DEC Rr` (R183). -/
  | decR (r : Fin 8)
  /-- `INC @Rr` (R184). -/
  | incInd (r : Fin 2)
  /-- `RL A` (R185). -/
  | rlA
  /-- `RLC A` (R186). -/
  | rlcA
  /-- `RR A` (R187). -/
  | rrA
  /-- `RRC A` (R188). -/
  | rrcA
  -- Jumps, calls and returns
  /-- `JBb addr` (R201). -/
  | jbb (b : Fin 8) (addr8 : Byte)
  /-- `JC addr` (R202). -/
  | jc (addr8 : Byte)
  /-- `JNC addr` (R203). -/
  | jnc (addr8 : Byte)
  /-- `JZ addr` (R204). -/
  | jz (addr8 : Byte)
  /-- `JNZ addr` (R205). -/
  | jnz (addr8 : Byte)
  /-- `JF0 addr` (R206). -/
  | jf0 (addr8 : Byte)
  /-- `JF1 addr` (R207). -/
  | jf1 (addr8 : Byte)
  /-- `JT0 addr` (R208). -/
  | jt0 (addr8 : Byte)
  /-- `JNT0 addr` (R209). -/
  | jnt0 (addr8 : Byte)
  /-- `JT1 addr` (R210). -/
  | jt1 (addr8 : Byte)
  /-- `JNT1 addr` (R211). -/
  | jnt1 (addr8 : Byte)
  /-- `JNI addr` (R212). -/
  | jni (addr8 : Byte)
  /-- `JTF addr` (R213). -/
  | jtf (addr8 : Byte)
  /-- `DJNZ Rr,addr` (R214). -/
  | djnzR (r : Fin 8) (addr8 : Byte)
  /-- `JMP addr` (R215). -/
  | jmp (aHi : BitVec 3) (addr8 : Byte)
  /-- `JMPP @A` (R216). -/
  | jmppAtA
  /-- `CALL addr` (R217). -/
  | call (aHi : BitVec 3) (addr8 : Byte)
  /-- `RET` (R218). -/
  | ret
  /-- `RETR` (R219). -/
  | retr
  -- Flag, bank, status-word, interrupt-enable instructions and NOP
  /-- `CLR C` (R230). -/
  | clrC
  /-- `CPL C` (R231). -/
  | cplC
  /-- `CLR F0` (R232). -/
  | clrF0
  /-- `CPL F0` (R233). -/
  | cplF0
  /-- `CLR F1` (R234). -/
  | clrF1
  /-- `CPL F1` (R235). -/
  | cplF1
  /-- `SEL RB0` (R236). -/
  | selRB0
  /-- `SEL RB1` (R237). -/
  | selRB1
  /-- `SEL MB0` (R238). -/
  | selMB0
  /-- `SEL MB1` (R239). -/
  | selMB1
  /-- `MOV A,PSW` (R240). -/
  | movAPsw
  /-- `MOV PSW,A` (R241). -/
  | movPswA
  /-- `EN I` (R242). -/
  | enI
  /-- `DIS I` (R243). -/
  | disI
  /-- `EN TCNTI` (R244). -/
  | enTcnti
  /-- `DIS TCNTI` (R245). -/
  | disTcnti
  /-- `NOP` (R246). -/
  | nop
  -- Timer and port instructions
  /-- `STRT T` (R260). -/
  | strtT
  /-- `STRT CNT` (R261). -/
  | strtCnt
  /-- `STOP TCNT` (R262). -/
  | stopTcnt
  /-- `MOV A,T` (R263). -/
  | movAT
  /-- `MOV T,A` (R264). -/
  | movTA
  /-- `IN A,P1` (R265). -/
  | inAP1
  /-- `IN A,P2` (R265). -/
  | inAP2
  /-- `OUTL P1,A` (R266). -/
  | outlP1A
  /-- `OUTL P2,A` (R266). -/
  | outlP2A
  /-- `ANL P1,#data` (R267). -/
  | anlP1Imm (data : Byte)
  /-- `ANL P2,#data` (R267). -/
  | anlP2Imm (data : Byte)
  /-- `ORL P1,#data` (R268). -/
  | orlP1Imm (data : Byte)
  /-- `ORL P2,#data` (R268). -/
  | orlP2Imm (data : Byte)
  -- Unsupported peripheral instructions (R269)
  /-- `MOVX @Rr,A` (R270). -/
  | movxIndA (r : Fin 2)
  /-- `OUTL BUS,A` (R271). -/
  | outlBusA
  /-- `INS A,BUS` (R272). -/
  | insABus
  /-- `ORL BUS,#data` (R273). -/
  | orlBusImm (data : Byte)
  /-- `ANL BUS,#data` (R274). -/
  | anlBusImm (data : Byte)
  /-- `MOVD A,Pp` (R275). -/
  | movdAPp (p : Nat)
  /-- `MOVD Pp,A` (R276). -/
  | movdPpA (p : Nat)
  /-- `ORLD Pp,A` (R277). -/
  | orldPpA (p : Nat)
  /-- `ANLD Pp,A` (R278). -/
  | anldPpA (p : Nat)
  /-- `ENT0 CLK` (R279). -/
  | ent0Clk
  -- The 26 unassigned opcode values (R104, R247)
  /-- `ILLEGAL_01` (R247). -/
  | illegal01
  /-- `ILLEGAL_06` (R247). -/
  | illegal06
  /-- `ILLEGAL_0B` (R247). -/
  | illegal0B
  /-- `ILLEGAL_22` (R247). -/
  | illegal22
  /-- `ILLEGAL_33` (R247). -/
  | illegal33
  /-- `ILLEGAL_38` (R247). -/
  | illegal38
  /-- `ILLEGAL_3B` (R247). -/
  | illegal3B
  /-- `ILLEGAL_63` (R247). -/
  | illegal63
  /-- `ILLEGAL_66` (R247). -/
  | illegal66
  /-- `ILLEGAL_73` (R247). -/
  | illegal73
  /-- `ILLEGAL_82` (R247). -/
  | illegal82
  /-- `ILLEGAL_87` (R247). -/
  | illegal87
  /-- `ILLEGAL_8B` (R247). -/
  | illegal8B
  /-- `ILLEGAL_9B` (R247). -/
  | illegal9B
  /-- `ILLEGAL_A2` (R247). -/
  | illegalA2
  /-- `ILLEGAL_A6` (R247). -/
  | illegalA6
  /-- `ILLEGAL_B7` (R247). -/
  | illegalB7
  /-- `ILLEGAL_C0` (R247). -/
  | illegalC0
  /-- `ILLEGAL_C1` (R247). -/
  | illegalC1
  /-- `ILLEGAL_C2` (R247). -/
  | illegalC2
  /-- `ILLEGAL_C3` (R247). -/
  | illegalC3
  /-- `ILLEGAL_D6` (R247). -/
  | illegalD6
  /-- `ILLEGAL_E0` (R247). -/
  | illegalE0
  /-- `ILLEGAL_E1` (R247). -/
  | illegalE1
  /-- `ILLEGAL_E2` (R247). -/
  | illegalE2
  /-- `ILLEGAL_F3` (R247). -/
  | illegalF3
deriving DecidableEq, Repr

end Sys2Proof
end

