-- ==== Sys2Proof/Machine/Cycles.lean ====
section
/-! DEFINITION. The cycle cost of every instruction (R94, R368). It is semantic: `Account` feeds it to the master
cycle count and the timer unit (R303). -/

namespace Sys2Proof

/-- `cyc(op)`: the machine cycles of an instruction, whatever its operands and whether or not a jump is taken
(R94). An unsupported instruction is refused before its cost matters. -/
def Instr.cycles : Instr → Nat
  | .addAR _ | .addAInd _ | .addcAR _ | .addcAInd _ | .daA | .anlAR _ | .anlAInd _ | .orlAR _ | .orlAInd _
  | .xrlAR _ | .xrlAInd _ | .clrA | .cplA | .movAR _ | .movAInd _ | .movRA _ | .movIndA _ | .xchAR _
  | .xchAInd _ | .xchdAInd _ | .swapA | .incA | .decA | .incR _ | .decR _ | .incInd _ | .rlA | .rlcA | .rrA
  | .rrcA | .clrC | .cplC | .clrF0 | .cplF0 | .clrF1 | .cplF1 | .selRB0 | .selRB1 | .selMB0 | .selMB1
  | .movAPsw | .movPswA | .enI | .disI | .enTcnti | .disTcnti | .nop | .strtT | .strtCnt | .stopTcnt | .movAT
  | .movTA | .ent0Clk | .illegal01 | .illegal06 | .illegal0B | .illegal22 | .illegal33 | .illegal38
  | .illegal3B | .illegal63 | .illegal66 | .illegal73 | .illegal82 | .illegal87 | .illegal8B | .illegal9B
  | .illegalA2 | .illegalA6 | .illegalB7 | .illegalC0 | .illegalC1 | .illegalC2 | .illegalC3 | .illegalD6
  | .illegalE0 | .illegalE1 | .illegalE2 | .illegalF3 => 1
  | .addAImm _ | .addcAImm _ | .anlAImm _ | .orlAImm _ | .xrlAImm _ | .movAImm _ | .movRImm _ _
  | .movIndImm _ _ | .movpAAtA | .movp3AAtA | .movxAInd _ | .jbb _ _ | .jc _ | .jnc _ | .jz _ | .jnz _ | .jf0 _
  | .jf1 _ | .jt0 _ | .jnt0 _ | .jt1 _ | .jnt1 _ | .jni _ | .jtf _ | .djnzR _ _ | .jmp _ _ | .jmppAtA
  | .call _ _ | .ret | .retr | .inAP1 | .inAP2 | .outlP1A | .outlP2A | .anlP1Imm _ | .anlP2Imm _ | .orlP1Imm _
  | .orlP2Imm _ | .movxIndA _ | .outlBusA | .insABus | .orlBusImm _ | .anlBusImm _ | .movdAPp _ | .movdPpA _
  | .orldPpA _ | .anldPpA _ => 2

end Sys2Proof
end

