-- ==== Sys2Proof/WellFormed.lean ====
section
/-! DEFINITION. Which terms of `Instr` an encoding exists for. Register, pointer and bit numbers carry their bound
in their type; the number of an expander port is checked here. -/

namespace Sys2Proof

/-- The ports of MOVD, ORLD and ANLD are P4 to P7 (R92, R275 to R278). -/
def portOk (p : Nat) : Bool := decide (4 ≤ p) && decide (p ≤ 7)

/-- An instruction that an encoding of R91 exists for. -/
def Instr.wf : Instr → Bool
  | .movdAPp p => portOk p
  | .movdPpA p => portOk p
  | .orldPpA p => portOk p
  | .anldPpA p => portOk p
  | .addAR _ | .addAInd _ | .addAImm _ | .addcAR _ | .addcAInd _ | .addcAImm _ | .daA | .anlAR _ | .anlAInd _
  | .anlAImm _ | .orlAR _ | .orlAInd _ | .orlAImm _ | .xrlAR _ | .xrlAInd _ | .xrlAImm _ | .clrA | .cplA
  | .movAR _ | .movAInd _ | .movAImm _ | .movRA _ | .movIndA _ | .movRImm _ _ | .movIndImm _ _ | .xchAR _
  | .xchAInd _ | .xchdAInd _ | .swapA | .movpAAtA | .movp3AAtA | .movxAInd _ | .incA | .decA | .incR _
  | .decR _ | .incInd _ | .rlA | .rlcA | .rrA | .rrcA | .jbb _ _ | .jc _ | .jnc _ | .jz _ | .jnz _ | .jf0 _
  | .jf1 _ | .jt0 _ | .jnt0 _ | .jt1 _ | .jnt1 _ | .jni _ | .jtf _ | .djnzR _ _ | .jmp _ _ | .jmppAtA
  | .call _ _ | .ret | .retr | .clrC | .cplC | .clrF0 | .cplF0 | .clrF1 | .cplF1 | .selRB0 | .selRB1 | .selMB0
  | .selMB1 | .movAPsw | .movPswA | .enI | .disI | .enTcnti | .disTcnti | .nop | .strtT | .strtCnt | .stopTcnt
  | .movAT | .movTA | .inAP1 | .inAP2 | .outlP1A | .outlP2A | .anlP1Imm _ | .anlP2Imm _ | .orlP1Imm _
  | .orlP2Imm _ | .movxIndA _ | .outlBusA | .insABus | .orlBusImm _ | .anlBusImm _ | .ent0Clk | .illegal01
  | .illegal06 | .illegal0B | .illegal22 | .illegal33 | .illegal38 | .illegal3B | .illegal63 | .illegal66
  | .illegal73 | .illegal82 | .illegal87 | .illegal8B | .illegal9B | .illegalA2 | .illegalA6 | .illegalB7
  | .illegalC0 | .illegalC1 | .illegalC2 | .illegalC3 | .illegalD6 | .illegalE0 | .illegalE1 | .illegalE2
  | .illegalF3 => true

end Sys2Proof
end

