-- ==== Sys2Proof/Decode.lean ====
section
/-! DEFINITION. The decoder as the data table of R110 (one row per row of `spec/opcode_table.json`: match, mask,
length and the instruction built), the decoding of bytes, and the encoder written from the formats of R91. -/

namespace Sys2Proof

/-- Field `r` of formats R, RIM, RJ: op[2:0] (R92). -/
def regField (op : Byte) : Fin 8 := Fin.ofNat 8 op.toNat

/-- Field `r` of formats X, XIM: op[0] (R92). -/
def ptrField (op : Byte) : Fin 2 := Fin.ofNat 2 op.toNat

/-- Field `b` of format JB: op[7:5] (R92). -/
def bitField (op : Byte) : Fin 8 := Fin.ofNat 8 (op.toNat / 32)

/-- Field `a_hi` of format J11: op[7:5] (R92). -/
def aHiField (op : Byte) : BitVec 3 := op.extractLsb' 5 3

/-- Field `pp` of MOVD, ORLD, ANLD: op[1:0], values 00..11 for ports 4..7 (R92). -/
def portField (op : Byte) : Nat := 4 + op.toNat % 4

/-- One row of the opcode table (R110): the bytes `op` with `op and mask = pattern` are this row's; `length` is
the instruction's number of bytes (R93); `build` reads the operands out of the opcode byte and the operand byte. -/
structure OpcodeRow where
  pattern : Byte
  mask : Byte
  length : Nat
  build : Byte → Byte → Instr

/-- Arithmetic instructions: rows of `spec/opcode_table.json`. -/
def arithmeticRows : List OpcodeRow := [
  ⟨0x68#8, 0xF8#8, 1, fun op _ => .addAR (regField op)⟩,
  ⟨0x60#8, 0xFE#8, 1, fun op _ => .addAInd (ptrField op)⟩,
  ⟨0x03#8, 0xFF#8, 2, fun _ b2 => .addAImm b2⟩,
  ⟨0x78#8, 0xF8#8, 1, fun op _ => .addcAR (regField op)⟩,
  ⟨0x70#8, 0xFE#8, 1, fun op _ => .addcAInd (ptrField op)⟩,
  ⟨0x13#8, 0xFF#8, 2, fun _ b2 => .addcAImm b2⟩,
  ⟨0x57#8, 0xFF#8, 1, fun _ _ => .daA⟩]

/-- Logic instructions: rows of `spec/opcode_table.json`. -/
def logicRows : List OpcodeRow := [
  ⟨0x58#8, 0xF8#8, 1, fun op _ => .anlAR (regField op)⟩,
  ⟨0x50#8, 0xFE#8, 1, fun op _ => .anlAInd (ptrField op)⟩,
  ⟨0x53#8, 0xFF#8, 2, fun _ b2 => .anlAImm b2⟩,
  ⟨0x48#8, 0xF8#8, 1, fun op _ => .orlAR (regField op)⟩,
  ⟨0x40#8, 0xFE#8, 1, fun op _ => .orlAInd (ptrField op)⟩,
  ⟨0x43#8, 0xFF#8, 2, fun _ b2 => .orlAImm b2⟩,
  ⟨0xD8#8, 0xF8#8, 1, fun op _ => .xrlAR (regField op)⟩,
  ⟨0xD0#8, 0xFE#8, 1, fun op _ => .xrlAInd (ptrField op)⟩,
  ⟨0xD3#8, 0xFF#8, 2, fun _ b2 => .xrlAImm b2⟩,
  ⟨0x27#8, 0xFF#8, 1, fun _ _ => .clrA⟩,
  ⟨0x37#8, 0xFF#8, 1, fun _ _ => .cplA⟩]

/-- Move and exchange instructions: rows of `spec/opcode_table.json`. -/
def moveRows : List OpcodeRow := [
  ⟨0xF8#8, 0xF8#8, 1, fun op _ => .movAR (regField op)⟩,
  ⟨0xF0#8, 0xFE#8, 1, fun op _ => .movAInd (ptrField op)⟩,
  ⟨0x23#8, 0xFF#8, 2, fun _ b2 => .movAImm b2⟩,
  ⟨0xA8#8, 0xF8#8, 1, fun op _ => .movRA (regField op)⟩,
  ⟨0xA0#8, 0xFE#8, 1, fun op _ => .movIndA (ptrField op)⟩,
  ⟨0xB8#8, 0xF8#8, 2, fun op b2 => .movRImm (regField op) b2⟩,
  ⟨0xB0#8, 0xFE#8, 2, fun op b2 => .movIndImm (ptrField op) b2⟩,
  ⟨0x28#8, 0xF8#8, 1, fun op _ => .xchAR (regField op)⟩,
  ⟨0x20#8, 0xFE#8, 1, fun op _ => .xchAInd (ptrField op)⟩,
  ⟨0x30#8, 0xFE#8, 1, fun op _ => .xchdAInd (ptrField op)⟩,
  ⟨0x47#8, 0xFF#8, 1, fun _ _ => .swapA⟩,
  ⟨0xA3#8, 0xFF#8, 1, fun _ _ => .movpAAtA⟩,
  ⟨0xE3#8, 0xFF#8, 1, fun _ _ => .movp3AAtA⟩,
  ⟨0x80#8, 0xFE#8, 1, fun op _ => .movxAInd (ptrField op)⟩]

/-- Increment, decrement and rotate instructions: rows of `spec/opcode_table.json`. -/
def incRotateRows : List OpcodeRow := [
  ⟨0x17#8, 0xFF#8, 1, fun _ _ => .incA⟩,
  ⟨0x07#8, 0xFF#8, 1, fun _ _ => .decA⟩,
  ⟨0x18#8, 0xF8#8, 1, fun op _ => .incR (regField op)⟩,
  ⟨0xC8#8, 0xF8#8, 1, fun op _ => .decR (regField op)⟩,
  ⟨0x10#8, 0xFE#8, 1, fun op _ => .incInd (ptrField op)⟩,
  ⟨0xE7#8, 0xFF#8, 1, fun _ _ => .rlA⟩,
  ⟨0xF7#8, 0xFF#8, 1, fun _ _ => .rlcA⟩,
  ⟨0x77#8, 0xFF#8, 1, fun _ _ => .rrA⟩,
  ⟨0x67#8, 0xFF#8, 1, fun _ _ => .rrcA⟩]

/-- Jumps, calls and returns: rows of `spec/opcode_table.json`. -/
def branchRows : List OpcodeRow := [
  ⟨0x12#8, 0x1F#8, 2, fun op b2 => .jbb (bitField op) b2⟩,
  ⟨0xF6#8, 0xFF#8, 2, fun _ b2 => .jc b2⟩,
  ⟨0xE6#8, 0xFF#8, 2, fun _ b2 => .jnc b2⟩,
  ⟨0xC6#8, 0xFF#8, 2, fun _ b2 => .jz b2⟩,
  ⟨0x96#8, 0xFF#8, 2, fun _ b2 => .jnz b2⟩,
  ⟨0xB6#8, 0xFF#8, 2, fun _ b2 => .jf0 b2⟩,
  ⟨0x76#8, 0xFF#8, 2, fun _ b2 => .jf1 b2⟩,
  ⟨0x36#8, 0xFF#8, 2, fun _ b2 => .jt0 b2⟩,
  ⟨0x26#8, 0xFF#8, 2, fun _ b2 => .jnt0 b2⟩,
  ⟨0x56#8, 0xFF#8, 2, fun _ b2 => .jt1 b2⟩,
  ⟨0x46#8, 0xFF#8, 2, fun _ b2 => .jnt1 b2⟩,
  ⟨0x86#8, 0xFF#8, 2, fun _ b2 => .jni b2⟩,
  ⟨0x16#8, 0xFF#8, 2, fun _ b2 => .jtf b2⟩,
  ⟨0xE8#8, 0xF8#8, 2, fun op b2 => .djnzR (regField op) b2⟩,
  ⟨0x04#8, 0x1F#8, 2, fun op b2 => .jmp (aHiField op) b2⟩,
  ⟨0xB3#8, 0xFF#8, 1, fun _ _ => .jmppAtA⟩,
  ⟨0x14#8, 0x1F#8, 2, fun op b2 => .call (aHiField op) b2⟩,
  ⟨0x83#8, 0xFF#8, 1, fun _ _ => .ret⟩,
  ⟨0x93#8, 0xFF#8, 1, fun _ _ => .retr⟩]

/-- Flag, bank, status-word, interrupt-enable instructions and NOP: rows of `spec/opcode_table.json`. -/
def controlRows : List OpcodeRow := [
  ⟨0x97#8, 0xFF#8, 1, fun _ _ => .clrC⟩,
  ⟨0xA7#8, 0xFF#8, 1, fun _ _ => .cplC⟩,
  ⟨0x85#8, 0xFF#8, 1, fun _ _ => .clrF0⟩,
  ⟨0x95#8, 0xFF#8, 1, fun _ _ => .cplF0⟩,
  ⟨0xA5#8, 0xFF#8, 1, fun _ _ => .clrF1⟩,
  ⟨0xB5#8, 0xFF#8, 1, fun _ _ => .cplF1⟩,
  ⟨0xC5#8, 0xFF#8, 1, fun _ _ => .selRB0⟩,
  ⟨0xD5#8, 0xFF#8, 1, fun _ _ => .selRB1⟩,
  ⟨0xE5#8, 0xFF#8, 1, fun _ _ => .selMB0⟩,
  ⟨0xF5#8, 0xFF#8, 1, fun _ _ => .selMB1⟩,
  ⟨0xC7#8, 0xFF#8, 1, fun _ _ => .movAPsw⟩,
  ⟨0xD7#8, 0xFF#8, 1, fun _ _ => .movPswA⟩,
  ⟨0x05#8, 0xFF#8, 1, fun _ _ => .enI⟩,
  ⟨0x15#8, 0xFF#8, 1, fun _ _ => .disI⟩,
  ⟨0x25#8, 0xFF#8, 1, fun _ _ => .enTcnti⟩,
  ⟨0x35#8, 0xFF#8, 1, fun _ _ => .disTcnti⟩,
  ⟨0x00#8, 0xFF#8, 1, fun _ _ => .nop⟩]

/-- Timer and port instructions: rows of `spec/opcode_table.json`. -/
def timerIoRows : List OpcodeRow := [
  ⟨0x55#8, 0xFF#8, 1, fun _ _ => .strtT⟩,
  ⟨0x45#8, 0xFF#8, 1, fun _ _ => .strtCnt⟩,
  ⟨0x65#8, 0xFF#8, 1, fun _ _ => .stopTcnt⟩,
  ⟨0x42#8, 0xFF#8, 1, fun _ _ => .movAT⟩,
  ⟨0x62#8, 0xFF#8, 1, fun _ _ => .movTA⟩,
  ⟨0x09#8, 0xFF#8, 1, fun _ _ => .inAP1⟩,
  ⟨0x0A#8, 0xFF#8, 1, fun _ _ => .inAP2⟩,
  ⟨0x39#8, 0xFF#8, 1, fun _ _ => .outlP1A⟩,
  ⟨0x3A#8, 0xFF#8, 1, fun _ _ => .outlP2A⟩,
  ⟨0x99#8, 0xFF#8, 2, fun _ b2 => .anlP1Imm b2⟩,
  ⟨0x9A#8, 0xFF#8, 2, fun _ b2 => .anlP2Imm b2⟩,
  ⟨0x89#8, 0xFF#8, 2, fun _ b2 => .orlP1Imm b2⟩,
  ⟨0x8A#8, 0xFF#8, 2, fun _ b2 => .orlP2Imm b2⟩]

/-- Unsupported peripheral instructions (R269): rows of `spec/opcode_table.json`. -/
def unsupportedRows : List OpcodeRow := [
  ⟨0x90#8, 0xFE#8, 1, fun op _ => .movxIndA (ptrField op)⟩,
  ⟨0x02#8, 0xFF#8, 1, fun _ _ => .outlBusA⟩,
  ⟨0x08#8, 0xFF#8, 1, fun _ _ => .insABus⟩,
  ⟨0x88#8, 0xFF#8, 2, fun _ b2 => .orlBusImm b2⟩,
  ⟨0x98#8, 0xFF#8, 2, fun _ b2 => .anlBusImm b2⟩,
  ⟨0x0C#8, 0xFC#8, 1, fun op _ => .movdAPp (portField op)⟩,
  ⟨0x3C#8, 0xFC#8, 1, fun op _ => .movdPpA (portField op)⟩,
  ⟨0x8C#8, 0xFC#8, 1, fun op _ => .orldPpA (portField op)⟩,
  ⟨0x9C#8, 0xFC#8, 1, fun op _ => .anldPpA (portField op)⟩,
  ⟨0x75#8, 0xFF#8, 1, fun _ _ => .ent0Clk⟩]

/-- The 26 unassigned opcode values (R104, R247): rows of `spec/opcode_table.json`. -/
def illegalRows : List OpcodeRow := [
  ⟨0x01#8, 0xFF#8, 1, fun _ _ => .illegal01⟩,
  ⟨0x06#8, 0xFF#8, 1, fun _ _ => .illegal06⟩,
  ⟨0x0B#8, 0xFF#8, 1, fun _ _ => .illegal0B⟩,
  ⟨0x22#8, 0xFF#8, 1, fun _ _ => .illegal22⟩,
  ⟨0x33#8, 0xFF#8, 1, fun _ _ => .illegal33⟩,
  ⟨0x38#8, 0xFF#8, 1, fun _ _ => .illegal38⟩,
  ⟨0x3B#8, 0xFF#8, 1, fun _ _ => .illegal3B⟩,
  ⟨0x63#8, 0xFF#8, 1, fun _ _ => .illegal63⟩,
  ⟨0x66#8, 0xFF#8, 1, fun _ _ => .illegal66⟩,
  ⟨0x73#8, 0xFF#8, 1, fun _ _ => .illegal73⟩,
  ⟨0x82#8, 0xFF#8, 1, fun _ _ => .illegal82⟩,
  ⟨0x87#8, 0xFF#8, 1, fun _ _ => .illegal87⟩,
  ⟨0x8B#8, 0xFF#8, 1, fun _ _ => .illegal8B⟩,
  ⟨0x9B#8, 0xFF#8, 1, fun _ _ => .illegal9B⟩,
  ⟨0xA2#8, 0xFF#8, 1, fun _ _ => .illegalA2⟩,
  ⟨0xA6#8, 0xFF#8, 1, fun _ _ => .illegalA6⟩,
  ⟨0xB7#8, 0xFF#8, 1, fun _ _ => .illegalB7⟩,
  ⟨0xC0#8, 0xFF#8, 1, fun _ _ => .illegalC0⟩,
  ⟨0xC1#8, 0xFF#8, 1, fun _ _ => .illegalC1⟩,
  ⟨0xC2#8, 0xFF#8, 1, fun _ _ => .illegalC2⟩,
  ⟨0xC3#8, 0xFF#8, 1, fun _ _ => .illegalC3⟩,
  ⟨0xD6#8, 0xFF#8, 1, fun _ _ => .illegalD6⟩,
  ⟨0xE0#8, 0xFF#8, 1, fun _ _ => .illegalE0⟩,
  ⟨0xE1#8, 0xFF#8, 1, fun _ _ => .illegalE1⟩,
  ⟨0xE2#8, 0xFF#8, 1, fun _ _ => .illegalE2⟩,
  ⟨0xF3#8, 0xFF#8, 1, fun _ _ => .illegalF3⟩]

/-- The whole opcode table (R96 to R104). -/
def opcodeRows : List OpcodeRow :=
  arithmeticRows ++ logicRows ++ moveRows ++ incRotateRows ++ branchRows ++
  controlRows ++ timerIoRows ++ unsupportedRows ++ illegalRows

/-- The first row of the table that an opcode byte matches. -/
def findRow (op : Byte) : Option OpcodeRow :=
  opcodeRows.find? fun row => op &&& row.mask == row.pattern

/-- The table covers all 256 opcode values (R90, R110). -/
theorem findRow_isSome : ∀ op : Byte, (findRow op).isSome = true := by
  decide +kernel

/-- The row of an opcode byte: the decoder is total (R110). -/
def rowOf (op : Byte) : OpcodeRow := (findRow op).get (findRow_isSome op)

/-- `len(op)`: 1 or 2 bytes, told by the opcode byte alone (R93). -/
def opLength (op : Byte) : Nat := (rowOf op).length

/-- The instruction that opcode byte `op` and the byte `b2` after it stand for; a 1-byte instruction does not
depend on `b2` (R90). -/
def decodeOp (op b2 : Byte) : Instr := (rowOf op).build op b2

/-- Why a list of bytes is no instruction: every opcode byte decodes (R110), so only bytes can be missing. -/
inductive DecodeReject where
  /-- There is no byte to read. -/
  | noOpcode
  /-- The opcode byte `op` needs an operand byte and there is none. -/
  | noOperand (op : Byte)
deriving DecidableEq, Repr

/-- What decoding a list of bytes gives: an instruction and the bytes after it, or a rejection by name. -/
inductive Decoded where
  | ok (i : Instr) (rest : List Byte)
  | rejected (why : DecodeReject)
deriving DecidableEq, Repr

/-- Decoding of any list of bytes, opcode first (R66, R90). -/
def decode : List Byte → Decoded
  | [] => .rejected .noOpcode
  | op :: rest =>
    if opLength op = 1 then .ok (decodeOp op 0) rest
    else
      match rest with
      | [] => .rejected (.noOperand op)
      | b2 :: rest' => .ok (decodeOp op b2) rest'

/-- The instruction of a row of `spec/opcode_table.json` from its bits `w`, the opcode byte in bits 7..0 and the
operand byte in bits 15..8; bits from `nbits` on are 0. -/
def decodeTableWord (nbits w : Nat) : Option Instr :=
  match decode [BitVec.ofNat 8 (w % 2 ^ nbits), BitVec.ofNat 8 (w % 2 ^ nbits / 256)] with
  | .ok i _ => some i
  | .rejected _ => none

/-- The bits of a register number in formats R, RIM, RJ. -/
def regBits (r : Fin 8) : BitVec 3 := BitVec.ofNat 3 r.val

/-- The bit of a pointer register number in formats X, XIM. -/
def ptrBits (r : Fin 2) : BitVec 1 := BitVec.ofNat 1 r.val

/-- The bits of an expander port number, `pp` = p - 4 (R275). -/
def portBits (p : Nat) : BitVec 2 := BitVec.ofNat 2 (p - 4)

/-- The bytes of an instruction, written from the bit patterns of R91 and the encodings in the instruction rules. -/
def encode : Instr → List Byte
  | .addAR r => [0b01101#5 ++ regBits r]
  | .addAInd r => [0b0110000#7 ++ ptrBits r]
  | .addAImm data => [0b00000011#8, data]
  | .addcAR r => [0b01111#5 ++ regBits r]
  | .addcAInd r => [0b0111000#7 ++ ptrBits r]
  | .addcAImm data => [0b00010011#8, data]
  | .daA => [0b01010111#8]
  | .anlAR r => [0b01011#5 ++ regBits r]
  | .anlAInd r => [0b0101000#7 ++ ptrBits r]
  | .anlAImm data => [0b01010011#8, data]
  | .orlAR r => [0b01001#5 ++ regBits r]
  | .orlAInd r => [0b0100000#7 ++ ptrBits r]
  | .orlAImm data => [0b01000011#8, data]
  | .xrlAR r => [0b11011#5 ++ regBits r]
  | .xrlAInd r => [0b1101000#7 ++ ptrBits r]
  | .xrlAImm data => [0b11010011#8, data]
  | .clrA => [0b00100111#8]
  | .cplA => [0b00110111#8]
  | .movAR r => [0b11111#5 ++ regBits r]
  | .movAInd r => [0b1111000#7 ++ ptrBits r]
  | .movAImm data => [0b00100011#8, data]
  | .movRA r => [0b10101#5 ++ regBits r]
  | .movIndA r => [0b1010000#7 ++ ptrBits r]
  | .movRImm r data => [0b10111#5 ++ regBits r, data]
  | .movIndImm r data => [0b1011000#7 ++ ptrBits r, data]
  | .xchAR r => [0b00101#5 ++ regBits r]
  | .xchAInd r => [0b0010000#7 ++ ptrBits r]
  | .xchdAInd r => [0b0011000#7 ++ ptrBits r]
  | .swapA => [0b01000111#8]
  | .movpAAtA => [0b10100011#8]
  | .movp3AAtA => [0b11100011#8]
  | .movxAInd r => [0b1000000#7 ++ ptrBits r]
  | .incA => [0b00010111#8]
  | .decA => [0b00000111#8]
  | .incR r => [0b00011#5 ++ regBits r]
  | .decR r => [0b11001#5 ++ regBits r]
  | .incInd r => [0b0001000#7 ++ ptrBits r]
  | .rlA => [0b11100111#8]
  | .rlcA => [0b11110111#8]
  | .rrA => [0b01110111#8]
  | .rrcA => [0b01100111#8]
  | .jbb b addr8 => [BitVec.ofNat 3 b.val ++ 0b10010#5, addr8]
  | .jc addr8 => [0b11110110#8, addr8]
  | .jnc addr8 => [0b11100110#8, addr8]
  | .jz addr8 => [0b11000110#8, addr8]
  | .jnz addr8 => [0b10010110#8, addr8]
  | .jf0 addr8 => [0b10110110#8, addr8]
  | .jf1 addr8 => [0b01110110#8, addr8]
  | .jt0 addr8 => [0b00110110#8, addr8]
  | .jnt0 addr8 => [0b00100110#8, addr8]
  | .jt1 addr8 => [0b01010110#8, addr8]
  | .jnt1 addr8 => [0b01000110#8, addr8]
  | .jni addr8 => [0b10000110#8, addr8]
  | .jtf addr8 => [0b00010110#8, addr8]
  | .djnzR r addr8 => [0b11101#5 ++ regBits r, addr8]
  | .jmp aHi addr8 => [aHi ++ 0b00100#5, addr8]
  | .jmppAtA => [0b10110011#8]
  | .call aHi addr8 => [aHi ++ 0b10100#5, addr8]
  | .ret => [0b10000011#8]
  | .retr => [0b10010011#8]
  | .clrC => [0b10010111#8]
  | .cplC => [0b10100111#8]
  | .clrF0 => [0b10000101#8]
  | .cplF0 => [0b10010101#8]
  | .clrF1 => [0b10100101#8]
  | .cplF1 => [0b10110101#8]
  | .selRB0 => [0b11000101#8]
  | .selRB1 => [0b11010101#8]
  | .selMB0 => [0b11100101#8]
  | .selMB1 => [0b11110101#8]
  | .movAPsw => [0b11000111#8]
  | .movPswA => [0b11010111#8]
  | .enI => [0b00000101#8]
  | .disI => [0b00010101#8]
  | .enTcnti => [0b00100101#8]
  | .disTcnti => [0b00110101#8]
  | .nop => [0b00000000#8]
  | .strtT => [0b01010101#8]
  | .strtCnt => [0b01000101#8]
  | .stopTcnt => [0b01100101#8]
  | .movAT => [0b01000010#8]
  | .movTA => [0b01100010#8]
  | .inAP1 => [0b00001001#8]
  | .inAP2 => [0b00001010#8]
  | .outlP1A => [0b00111001#8]
  | .outlP2A => [0b00111010#8]
  | .anlP1Imm data => [0b10011001#8, data]
  | .anlP2Imm data => [0b10011010#8, data]
  | .orlP1Imm data => [0b10001001#8, data]
  | .orlP2Imm data => [0b10001010#8, data]
  | .movxIndA r => [0b1001000#7 ++ ptrBits r]
  | .outlBusA => [0b00000010#8]
  | .insABus => [0b00001000#8]
  | .orlBusImm data => [0b10001000#8, data]
  | .anlBusImm data => [0b10011000#8, data]
  | .movdAPp p => [0b000011#6 ++ portBits p]
  | .movdPpA p => [0b001111#6 ++ portBits p]
  | .orldPpA p => [0b100011#6 ++ portBits p]
  | .anldPpA p => [0b100111#6 ++ portBits p]
  | .ent0Clk => [0b01110101#8]
  | .illegal01 => [0b00000001#8]
  | .illegal06 => [0b00000110#8]
  | .illegal0B => [0b00001011#8]
  | .illegal22 => [0b00100010#8]
  | .illegal33 => [0b00110011#8]
  | .illegal38 => [0b00111000#8]
  | .illegal3B => [0b00111011#8]
  | .illegal63 => [0b01100011#8]
  | .illegal66 => [0b01100110#8]
  | .illegal73 => [0b01110011#8]
  | .illegal82 => [0b10000010#8]
  | .illegal87 => [0b10000111#8]
  | .illegal8B => [0b10001011#8]
  | .illegal9B => [0b10011011#8]
  | .illegalA2 => [0b10100010#8]
  | .illegalA6 => [0b10100110#8]
  | .illegalB7 => [0b10110111#8]
  | .illegalC0 => [0b11000000#8]
  | .illegalC1 => [0b11000001#8]
  | .illegalC2 => [0b11000010#8]
  | .illegalC3 => [0b11000011#8]
  | .illegalD6 => [0b11010110#8]
  | .illegalE0 => [0b11100000#8]
  | .illegalE1 => [0b11100001#8]
  | .illegalE2 => [0b11100010#8]
  | .illegalF3 => [0b11110011#8]

/-- The number of bytes of an instruction (R93). -/
def Instr.length (i : Instr) : Nat := (encode i).length

end Sys2Proof
end

