-- ==== Sys2Proof/Config.lean ====
section
/-! DEFINITION. The open parameters of R5 that one machine fixes and no proof may see: the input oracles of R6 and
the switch of R314. They have no body, so every theorem holds for every value. -/

namespace Sys2Proof

/-- `IntIn(c)`: the external interrupt request at master cycle count `c`, `true` = asserted (R6). -/
opaque Config.intIn : Nat → Bool

/-- `T0In(c)`: the timer test input (R6). -/
opaque Config.t0In : Nat → Bool

/-- `T1In(c)`: the counter test input (R6). -/
opaque Config.t1In : Nat → Bool

/-- `PortIn(p, c)`: the pin levels of port `p` (1 or 2) at count `c` (R6). -/
opaque Config.portIn : Nat → Nat → Byte

/-- `ExtRead(a, c)`: the byte the external space answers at address `a` and count `c` (R6, R62). -/
opaque Config.extRead : Byte → Nat → Byte

/-- `JNI_POLL_QUIRK` (R5, R314). -/
opaque Config.jniPollQuirk : Bool

end Sys2Proof
end

