-- ==== Sys2Proof/Machine/State.lean ====
section
/-! DEFINITION. The state of the machine as plain data, the reasons a step can stop, and the state after reset. -/

namespace Sys2Proof.Machine

/-- `mode` of the timer/counter unit (R42). -/
inductive TimerMode where
  | off
  | timer
  | counter
deriving DecidableEq, Repr

/-- `irq_in_progress`: which interrupt is being serviced, at most one at a time (R45). -/
inductive IrqState where
  | idle
  | external
  | timer
deriving DecidableEq, Repr

/-- The two ports of the block (R36). -/
inductive Port where
  | p1
  | p2
deriving DecidableEq, Repr

/-- An output event (R6, R8). -/
inductive Event where
  /-- `PortOut(p, v)`. -/
  | portOut (p : Port) (v : Byte)
  /-- `Diag(op, address)` (R247). -/
  | diag (op : Byte) (address : Addr)
deriving DecidableEq, Repr

/-- One of the two byte memories: the listed bytes by rising address; every other byte reads `Memory.blank`. -/
abbrev Memory := List Host.Cell

/-- What a byte that is not listed reads as. DESIGN CHOICE (unsafe): `ROM` and `RAM_INIT` are open parameters (R5)
and D13 recommends an all-zero `RAM_INIT`; log entries 1 and 2. -/
def Memory.blank : Byte := 0

/-- Samples of the input lines fixed in advance, by master cycle count (and address for the external space). The
model's own field (DESIGN CHOICE, safe, log entry 3): a sample that is not listed is the open oracle of `Config`. -/
structure Inputs where
  intIn : List (Nat × Bool)
  t0In : List (Nat × Bool)
  t1In : List (Nat × Bool)
  port1 : List (Nat × Byte)
  port2 : List (Nat × Byte)
  ext : List ((Byte × Nat) × Byte)
deriving DecidableEq, Repr

/-- Every piece of state the spec gives the machine (R20 to R47, R50, R60, R61, R370), the output trace (R8) and the
model's own `inputs`. -/
structure State where
  /-- Accumulator (R20). -/
  acc : Byte
  /-- Program counter, all 12 bits (R21). -/
  pc : Addr
  /-- Bank-address latch (R22). -/
  a11 : Bool
  /-- Saved value of the bank-address latch (R23). -/
  a11Shadow : Bool
  /-- Carry, PSW bit 7 (R27). -/
  cy : Bool
  /-- Auxiliary carry, PSW bit 6 (R27). -/
  ac : Bool
  /-- User flag 0, PSW bit 5 (R27). -/
  f0 : Bool
  /-- Register-bank select, PSW bit 4 (R27). -/
  bs : Bool
  /-- Stack pointer, PSW bits 2..0 (R27, R33). -/
  sp : BitVec 3
  /-- User flag 1 (R30). -/
  f1 : Bool
  /-- Port 1 latch (R36). -/
  p1 : Byte
  /-- Port 2 latch (R36). -/
  p2 : Byte
  /-- Data store, addresses 0..127 (R61). -/
  data : Memory
  /-- Program store, addresses 0..4095 (R60). -/
  prog : Memory
  /-- The 8-bit counter (R37). -/
  timerCounter : Byte
  /-- The 5-bit prescaler (R38). -/
  prescaler : BitVec 5
  /-- Timer flag (R39). -/
  timerFlag : Bool
  /-- Sticky timer-interrupt latch (R40). -/
  timerOverflow : Bool
  /-- Previous and latest sample of T1 (R41). -/
  t1History : BitVec 2
  /-- Mode of the timer/counter unit (R42). -/
  mode : TimerMode
  /-- External interrupts enabled (R43). -/
  xirqEnabled : Bool
  /-- Timer interrupts enabled (R44). -/
  tirqEnabled : Bool
  /-- Interrupt being serviced (R45). -/
  irqInProgress : IrqState
  /-- A JNI of this step found the line not asserted (R46). -/
  irqLastPollResult : Bool
  /-- Master cycle count (R47). -/
  cycles : Nat
  /-- Overshoot of `Run` (R370). -/
  cycleDebt : Nat
  /-- Output events so far, oldest first (R8, R51). -/
  trace : List Event
  /-- Input samples fixed in advance (the model's own, log entry 3). -/
  inputs : Inputs
deriving DecidableEq, Repr

/-- The reasons a step stops with a fault: none. The block has no synchronous exception and no fault state (R9,
R321), every data and program address exists (R60, R64, R68). Nothing raises a fault, which is exact. -/
inductive Fault where
deriving DecidableEq, Repr

/-- The reasons a step has no successor. -/
inductive Refusal where
  /-- Raised by an arm of `exec` whose instruction has no meaning yet; no arm is left. Safe. -/
  | notModelled (mnemonic : String)
  /-- `raise Unsupported(op, address)` (R269, R322): raised by the meanings of the 10 unsupported rows, with the
  opcode byte and the address it was fetched from. Safe: the chip executes them, the spec refuses them. -/
  | unsupported (op : Byte) (address : Addr)
deriving DecidableEq, Repr

/-- What a meaning answers. -/
abbrev Result := Host.Outcome State Fault Refusal

/-- The machine right after creation and reset (R50, R350, R351), with nothing listed in either memory, no event and
no input sample fixed. -/
def State.reset : State where
  acc := 0x00
  pc := 0x000
  a11 := false
  a11Shadow := false
  cy := false
  ac := false
  f0 := false
  bs := false
  sp := 0
  f1 := false
  p1 := 0xFF
  p2 := 0xFF
  data := []
  prog := []
  timerCounter := 0x00
  prescaler := 0
  timerFlag := false
  timerOverflow := false
  t1History := 0b00
  mode := .off
  xirqEnabled := false
  tirqEnabled := false
  irqInProgress := .idle
  irqLastPollResult := false
  cycles := 0
  cycleDebt := 0
  trace := []
  inputs := ⟨[], [], [], [], [], []⟩

end Sys2Proof.Machine
end

