-- ==== Sys2Proof/Machine/Flags.lean ====
section
/-! DEFINITION. Every flag computation of the spec: the adder (R120), the decimal adjust (R127), the rotates through
carry (R186, R188) and the status word (R27 to R29). -/

namespace Sys2Proof.Machine

/-- The 9-bit sum `s8` of `AddCore` (R120), 0..511. -/
def addSum (a b : Byte) (cin : Bool) : Nat := a.toNat + b.toNat + cin.toNat

/-- The nibble sum `s4` of `AddCore` (R120), 0..31. -/
def addNibbleSum (a b : Byte) (cin : Bool) : Nat := a.toNat % 16 + b.toNat % 16 + cin.toNat

/-- `AddCore(acc, b, cin)` (R120): the sum into the accumulator, `cy` and `ac` both written. -/
def State.addCore (s : State) (b : Byte) (cin : Bool) : State :=
  { s with
    acc := BitVec.ofNat 8 (addSum s.acc b cin)
    cy := decide (addSum s.acc b cin > 255)
    ac := decide (addNibbleSum s.acc b cin > 15) }

/-- The low-nibble adjust of `DA A` applies (R127). -/
def daLow (a : Byte) (ac : Bool) : Bool := decide (a.toNat % 16 > 9) || ac

/-- The accumulator after the low-nibble adjust (R127). -/
def daAccLow (a : Byte) (ac : Bool) : Byte := if daLow a ac then a + 0x06 else a

/-- The carry after the low-nibble adjust (R127). -/
def daCyLow (a : Byte) (cy ac : Bool) : Bool := cy || (daLow a ac && decide (a.toNat > 0xF9))

/-- The high-nibble adjust of `DA A` applies, tested on the values after the low one (R127). -/
def daHigh (a : Byte) (cy ac : Bool) : Bool :=
  decide ((daAccLow a ac).toNat / 16 > 9) || daCyLow a cy ac

/-- `DA A` (R127): `cy` may be set and is never cleared, `ac` is unchanged. -/
def State.decimalAdjust (s : State) : State :=
  { s with
    acc := if daHigh s.acc s.cy s.ac then daAccLow s.acc s.ac + 0x60 else daAccLow s.acc s.ac
    cy := daCyLow s.acc s.cy s.ac || daHigh s.acc s.cy s.ac }

/-- `RLC A`: rotate the 9-bit ring `cy ++ acc` left (R186). -/
def State.rotateLeftCarry (s : State) : State :=
  { s with
    acc := s.acc.extractLsb' 0 7 ++ BitVec.ofBool s.cy
    cy := s.acc.getLsbD 7 }

/-- `RRC A`: rotate the 9-bit ring `cy ++ acc` right (R188). -/
def State.rotateRightCarry (s : State) : State :=
  { s with
    acc := BitVec.ofBool s.cy ++ s.acc.extractLsb' 1 7
    cy := s.acc.getLsbD 0 }

/-- The flags that a stack entry saves: `cy ++ ac ++ f0 ++ bs` (R34). -/
def State.flagsNibble (s : State) : BitVec 4 :=
  BitVec.ofBool s.cy ++ BitVec.ofBool s.ac ++ BitVec.ofBool s.f0 ++ BitVec.ofBool s.bs

/-- `PSW()`: the read value of the status word, bit 3 always 1 (R28). -/
def State.psw (s : State) : Byte := s.flagsNibble ++ 0b1#1 ++ s.sp

/-- The four flags from bits 3..0 of `v` = `cy ++ ac ++ f0 ++ bs` (R29, R219). -/
def State.setFlags (s : State) (v : BitVec 4) : State :=
  { s with
    cy := v.getLsbD 3
    ac := v.getLsbD 2
    f0 := v.getLsbD 1
    bs := v.getLsbD 0 }

/-- The status word written from a byte; bit 3 is ignored (R29). -/
def State.setPsw (s : State) (v : Byte) : State :=
  { s.setFlags (v.extractLsb' 4 4) with sp := v.extractLsb' 0 3 }

end Sys2Proof.Machine
end

