-- ==== Sys2Proof/Machine/Inputs.lean ====
section
/-! DEFINITION. Sampling the input lines at the current master cycle count (R6, R70, D37). -/

namespace Sys2Proof.Machine

/-- The sample of an input at `k`: the one fixed in advance, or else the open oracle's. -/
def pinnedOr {κ α : Type} [BEq κ] (pins : List (κ × α)) (free : κ → α) (k : κ) : α :=
  (pins.lookup k).getD (free k)

/-- `IntIn(cycles)` (R6): the external interrupt request is asserted. -/
def State.intIn (s : State) : Bool := pinnedOr s.inputs.intIn Config.intIn s.cycles

/-- `T0In(cycles)` (R6). -/
def State.t0In (s : State) : Bool := pinnedOr s.inputs.t0In Config.t0In s.cycles

/-- `T1In(cycles)` (R6). -/
def State.t1In (s : State) : Bool := pinnedOr s.inputs.t1In Config.t1In s.cycles

/-- `PortIn(p, cycles)` (R6). -/
def State.portIn (s : State) : Port → Byte
  | .p1 => pinnedOr s.inputs.port1 (Config.portIn 1) s.cycles
  | .p2 => pinnedOr s.inputs.port2 (Config.portIn 2) s.cycles

/-- `ExtRead(a, cycles)` (R6, R62): a read that always succeeds. -/
def State.extRead (s : State) (a : Byte) : Byte :=
  pinnedOr s.inputs.ext (fun k => Config.extRead k.1 k.2) (a, s.cycles)

end Sys2Proof.Machine
end

