-- ==== Sys2Proof/Machine/Timer.lean ====
section
/-! DEFINITION. The timer/counter unit and the cycle accounting that drives it (R303 to R308). -/

namespace Sys2Proof.Machine

/-- `CounterTick()` (R306): the counter is incremented; on the wrap the flag is set, and the sticky latch too if the
timer interrupt is enabled at that moment (R307). -/
def State.counterTick (s : State) : State :=
  { s with
    timerCounter := s.timerCounter + 1
    timerFlag := s.timerFlag || s.timerCounter + 1 == 0
    timerOverflow := s.timerOverflow || (s.timerCounter + 1 == 0 && s.tirqEnabled) }

/-- `prescaler <- v`. -/
def State.setPrescaler (s : State) (v : BitVec 5) : State := { s with prescaler := v }

/-- `TimerCycle()` (R304). -/
def State.timerCycle (s : State) : State :=
  if s.prescaler + 1 = 0 then (s.setPrescaler (s.prescaler + 1)).counterTick
  else s.setPrescaler (s.prescaler + 1)

/-- `t1_history` with a sample shifted in: bit 1 previous, bit 0 latest (R41). -/
def shiftHistory (h : BitVec 2) (sample : Bool) : BitVec 2 := h.extractLsb' 0 1 ++ BitVec.ofBool sample

/-- `t1_history <- h`. -/
def State.setHistory (s : State) (h : BitVec 2) : State := { s with t1History := h }

/-- `CounterCycle()` (R305): one sample of T1, a tick on the falling pattern. -/
def State.counterCycle (s : State) : State :=
  if shiftHistory s.t1History s.t1In = 0b10 then (s.setHistory (shiftHistory s.t1History s.t1In)).counterTick
  else s.setHistory (shiftHistory s.t1History s.t1In)

/-- `cycles <- cycles + 1`. -/
def State.addCycle (s : State) : State := { s with cycles := s.cycles + 1 }

/-- One machine cycle: the body of `Account`'s loop (R303). -/
def State.oneCycle (s : State) : State :=
  match s.mode with
  | .off => s.addCycle
  | .timer => s.addCycle.timerCycle
  | .counter => s.addCycle.counterCycle

/-- `Account(n)`: `n` machine cycles elapse, one at a time (R303). -/
def State.account (s : State) : Nat → State
  | 0 => s
  | n + 1 => s.oneCycle.account n

end Sys2Proof.Machine
end

