-- ==== Sys2Proof/Machine/Ops.lean ====
section
/-! DEFINITION. The named operations over memory, `pc`, the stack, the ports and the output trace, interrupt entry and
return, and the parts of a step around an instruction's own effect. -/

namespace Sys2Proof.Machine

/-! ## The byte memories (R60, R61, R69) -/

/-- The byte at address `a`. -/
def Memory.read : Memory → Nat → Byte
  | [], _ => Memory.blank
  | c :: m, a => if c.1 = a then c.2 else Memory.read m a

/-- A listed byte put in its place. -/
def Memory.insert : Memory → Nat → Byte → Memory
  | [], a, v => [(a, v)]
  | c :: m, a, v =>
    if a < c.1 then (a, v) :: c :: m
    else if c.1 = a then (a, v) :: m
    else c :: Memory.insert m a v

/-- The memory without an entry for address `a`. -/
def Memory.remove (m : Memory) (a : Nat) : Memory := m.filter fun c => c.1 != a

/-- The byte `v` written at address `a`; writing what an unlisted byte reads as takes the entry out. -/
def Memory.write (m : Memory) (a : Nat) (v : Byte) : Memory :=
  if v = Memory.blank then Memory.remove m a else Memory.insert m a v

/-- Addresses strictly rise from `lo` on, lie below `size`, and no entry is what an unlisted byte reads as. -/
def Memory.wfFrom (size : Nat) : Nat → Memory → Bool
  | _, [] => true
  | lo, c :: m =>
    decide (lo ≤ c.1) && decide (c.1 < size) && decide (c.2 ≠ Memory.blank) && Memory.wfFrom size (c.1 + 1) m

/-- The canonical form of a memory of `size` bytes. -/
def Memory.wf (size : Nat) (m : Memory) : Bool := Memory.wfFrom size 0 m

/-- `PROG_SIZE` (R5). -/
def progSize : Nat := 4096

/-- `DATA_SIZE` (R5). -/
def dataSize : Nat := 128

/-- `MemRead(DATA: a, 1)` (R8). -/
def State.readData (s : State) (a : Nat) : Byte := s.data.read a

/-- `MemWrite(DATA: a, 1, v)` (R8). -/
def State.writeData (s : State) (a : Nat) (v : Byte) : State := { s with data := s.data.write a v }

/-- `MemRead(PROG: a, 1)` (R8). -/
def State.readProg (s : State) (a : Addr) : Byte := s.prog.read a.toNat

/-! ## The accumulator and the program counter -/

/-- `acc <- v`. -/
def State.setAcc (s : State) (v : Byte) : State := { s with acc := v }

/-- A program address as the machine may hold it: modulo 2048 while an interrupt is in progress (R25, R26). -/
def maskPc (irq : IrqState) (v : Addr) : Addr := if irq = .idle then v else v &&& 0x7FF

/-- `IncPC(v)` (R25). -/
def State.incPc (s : State) (v : Addr) : Addr := maskPc s.irqInProgress (v + 1)

/-- `SetPC(v)` (R26). -/
def State.setPc (s : State) (v : Addr) : State := { s with pc := maskPc s.irqInProgress v }

/-- `pc <- v`, all 12 bits, without the masking of `SetPC` (R314). -/
def State.loadPc (s : State) (v : Addr) : State := { s with pc := v }

/-- What `Fetch8()` does to the state: `pc <- IncPC(pc)` (R24). -/
def State.advance (s : State) : State := { s with pc := s.incPc s.pc }

/-- The address with the page of `a` and the low byte `lo`: `a[11:8] ++ lo`. -/
def inPage (a : Addr) (lo : Byte) : Addr := a.extractLsb' 8 4 ++ lo

/-- `CondJump(cond)` (R200), from the state after the opcode fetch: `pc` is the address of the operand byte `addr8`. -/
def State.condJump (s : State) (cond : Bool) (addr8 : Byte) : State :=
  if cond then s.advance.setPc (inPage s.pc addr8) else s.advance

/-- The target of JMP and CALL: `a11 ++ a_hi ++ addr8` (R95, R215). -/
def State.bankTarget (s : State) (aHi : BitVec 3) (addr8 : Byte) : Addr :=
  BitVec.ofBool s.a11 ++ aHi ++ addr8

/-! ## The stack (R33 to R35) -/

/-- The data address of the low byte of stack entry `i` (R33). -/
def stackLow (i : BitVec 3) : Nat := 8 + 2 * i.toNat

/-- The data address of the high byte of stack entry `i` (R33). -/
def stackHigh (i : BitVec 3) : Nat := 9 + 2 * i.toNat

/-- `Push()` (R34). -/
def State.push (s : State) : State :=
  { s with
    data := (s.data.write (stackLow s.sp) (s.pc.extractLsb' 0 8)).write (stackHigh s.sp)
      (s.flagsNibble ++ s.pc.extractLsb' 8 4)
    sp := s.sp + 1 }

/-- The high byte of the entry that `Pop()` reads (R35). -/
def State.popHigh (s : State) : Byte := s.data.read (stackHigh (s.sp - 1))

/-- `addr` of `Pop()` (R35). -/
def State.popAddr (s : State) : Addr :=
  s.popHigh.extractLsb' 0 4 ++ s.data.read (stackLow (s.sp - 1))

/-- `flags` of `Pop()` (R35). -/
def State.popFlags (s : State) : BitVec 4 := s.popHigh.extractLsb' 4 4

/-- What `Pop()` does to the state: `sp <- (sp - 1) mod 8` (R35). -/
def State.popSp (s : State) : State := { s with sp := s.sp - 1 }

/-! ## Output events and the port latches -/

/-- `emit E` (R8). -/
def State.emit (s : State) (e : Event) : State := { s with trace := s.trace ++ [e] }

/-- The latch `P(p)` (R36). -/
def State.latch (s : State) : Port → Byte
  | .p1 => s.p1
  | .p2 => s.p2

/-- `P(p) <- v; emit PortOut(p, v)` (R266 to R268). -/
def State.outPort (s : State) (p : Port) (v : Byte) : State :=
  match p with
  | .p1 => { s with p1 := v, trace := s.trace ++ [.portOut .p1 v] }
  | .p2 => { s with p2 := v, trace := s.trace ++ [.portOut .p2 v] }

/-- The illegal operation (R247), from the state whose `pc` is the opcode's address: one byte is fetched and the
diagnostic names the byte and its address. -/
def State.illegalOp (s : State) (op : Byte) : State := s.advance.emit (.diag op s.pc)

/-! ## Flags that a jump on an input or on the timer writes -/

/-- `if unresolved then irq_last_poll_result <- 1` (R212). -/
def State.notePoll (s : State) (unresolved : Bool) : State :=
  { s with irqLastPollResult := s.irqLastPollResult || unresolved }

/-- `timer_flag <- 0` (R213). -/
def State.clearTimerFlag (s : State) : State := { s with timerFlag := false }

/-! ## Program-bank select -/

/-- `SEL MBn` (R238, R239): the shadow takes `n`, the latch too unless an interrupt is in progress. -/
def State.selectBank (s : State) (n : Bool) : State :=
  { s with
    a11Shadow := n
    a11 := if s.irqInProgress = .idle then n else s.a11 }

/-! ## Interrupt entry and return (R311 to R319) -/

/-- `VEC_EXT` (R5, R71). -/
def vecExternal : Addr := 0x003

/-- `VEC_TIMER` (R5, R71). -/
def vecTimer : Addr := 0x007

/-- `QuirkReturn()` (R314): the target of the JNI whose operand byte is just before `pc`. -/
def State.quirkReturn (s : State) : Addr := inPage (s.pc - 1) (s.readProg (s.pc - 1))

/-- The saved address after the quirk of R314, if `JNI_POLL_QUIRK` is `quirk`. -/
def State.applyQuirk (s : State) (quirk : Bool) : State :=
  if s.irqLastPollResult && quirk then s.loadPc s.quirkReturn else s

/-- `irq_in_progress <- v`. -/
def State.setIrq (s : State) (v : IrqState) : State := { s with irqInProgress := v }

/-- `timer_overflow <- 0`. -/
def State.clearOverflow (s : State) : State := { s with timerOverflow := false }

/-- What the two entries share (R312, R313, R317): the return address and the flags are pushed, the bank latch is
saved and forced to 0, and control goes to the vector. -/
def State.vectorTo (s : State) (vector : Addr) : State :=
  { s.push with
    a11Shadow := s.a11
    a11 := false
    pc := vector }

/-- `EnterExternal()` (R312) with the value of `JNI_POLL_QUIRK` as an argument. -/
def State.enterExternalWith (s : State) (quirk : Bool) : State :=
  (((s.account 2).setIrq .external).applyQuirk quirk).vectorTo vecExternal

/-- `EnterExternal()` (R312). -/
def State.enterExternal (s : State) : State := s.enterExternalWith Config.jniPollQuirk

/-- `EnterTimer()` (R313): the sticky latch is cleared last. -/
def State.enterTimer (s : State) : State :=
  (((s.account 2).setIrq .timer).vectorTo vecTimer).clearOverflow

/-- `CheckInterrupts()` (R311, R315, R316): the external request first, then the timer's, none while one is in
progress. -/
def State.checkInterrupts (s : State) : State :=
  if s.irqInProgress = .idle then
    if s.xirqEnabled && s.intIn then s.enterExternal
    else if s.tirqEnabled && s.timerOverflow then s.enterTimer
    else s
  else s

/-- The return from interrupt (R219, R319): the popped flags, the saved bank latch, no interrupt in progress, and all
12 bits of the popped address. -/
def State.returnFromInterrupt (s : State) : State :=
  { s.popSp.setFlags s.popFlags with
    a11 := s.a11Shadow
    irqInProgress := .idle
    pc := s.popAddr }

/-! ## The parts of a step around an instruction's own effect (R300) -/

/-- The instruction at `pc`: its opcode byte and the byte at the next address (R24, R66). Reading has no effect (R70). -/
def State.fetchInstr (s : State) : Instr := decodeOp (s.readProg s.pc) (s.readProg (s.incPc s.pc))

/-- The start of a step: `irq_last_poll_result <- 0` (R300). -/
def State.beginStep (s : State) : State := { s with irqLastPollResult := false }

/-- The end of a step: `Account(cost)` and `CheckInterrupts()` (R300). -/
def State.endStep (s : State) (cost : Nat) : State := (s.account cost).checkInterrupts

/-! ## The RESET input -/

/-- `Reset()` (R351): every field at its reset value but the two memories. The trace of past events and the input
samples are the environment's and stay. -/
def State.applyReset (s : State) : State :=
  { State.reset with
    data := s.data
    prog := s.prog
    trace := s.trace
    inputs := s.inputs }

end Sys2Proof.Machine
end

