-- ==== Sys2Proof/Machine/Operands.lean ====
section
/-! DEFINITION. The operand forms: a register of the current bank, the data byte a pointer register names, an
immediate. The accumulator, the ports and the timer counter are named by the instruction itself. -/

namespace Sys2Proof.Machine

/-- `rb_base` (R31, R32): a function of `bs`. -/
def State.rbBase (s : State) : Nat := if s.bs then 24 else 0

/-- The data address of register `r` of the current bank (R31). -/
def State.regAddr (s : State) (r : Fin 8) : Nat := s.rbBase + r.val

/-- `R[r]` (R8, R31). -/
def State.reg (s : State) (r : Fin 8) : Byte := s.readData (s.regAddr r)

/-- `R[r] <- v` (R8, R31). -/
def State.setReg (s : State) (r : Fin 8) (v : Byte) : State := s.writeData (s.regAddr r) v

/-- The pointer register `r` of the forms `@R0`, `@R1` (R31). -/
def State.pointer (s : State) (r : Fin 2) : Byte := s.readData (s.rbBase + r.val)

/-- `Ind(r)`: the low 7 bits of the pointer register (R64). -/
def State.ind (s : State) (r : Fin 2) : Nat := (s.pointer r).toNat % 128

/-- The data byte that `@Rr` names (R64). -/
def State.atInd (s : State) (r : Fin 2) : Byte := s.readData (s.ind r)

/-- The data byte that `@Rr` names, written (R64). -/
def State.setAtInd (s : State) (r : Fin 2) (v : Byte) : State := s.writeData (s.ind r) v

/-- The state after the opcode byte and the operand byte have been fetched (R24, R93). -/
def State.advance2 (s : State) : State := s.advance.advance

end Sys2Proof.Machine
end

