-- ==== Sys2Proof/Machine/Arithmetic.lean ====
section
/-! DEFINITION. ADD, ADDC and DA (`spec/40_arithmetic.md`). -/

namespace Sys2Proof.Machine

/-- `ADD A,Rr` (R121). -/
def execAddAR (r : Fin 8) (s : State) : Result := .next (s.advance.addCore (s.reg r) false)

/-- `ADD A,@Rr` (R122). -/
def execAddAInd (r : Fin 2) (s : State) : Result := .next (s.advance.addCore (s.atInd r) false)

/-- `ADD A,#data` (R123). -/
def execAddAImm (data : Byte) (s : State) : Result := .next (s.advance2.addCore data false)

/-- `ADDC A,Rr` (R124): the carry-in is `cy` before the instruction. -/
def execAddcAR (r : Fin 8) (s : State) : Result := .next (s.advance.addCore (s.reg r) s.cy)

/-- `ADDC A,@Rr` (R125). -/
def execAddcAInd (r : Fin 2) (s : State) : Result := .next (s.advance.addCore (s.atInd r) s.cy)

/-- `ADDC A,#data` (R126). -/
def execAddcAImm (data : Byte) (s : State) : Result := .next (s.advance2.addCore data s.cy)

/-- `DA A` (R127). -/
def execDaA (s : State) : Result := .next s.advance.decimalAdjust

end Sys2Proof.Machine
end

