-- ==== Sys2Proof/Machine/Branch.lean ====
section
/-! DEFINITION. Jumps, calls and returns (`spec/44_branch.md`). `s.advance` is the state after the opcode fetch; the
condition is tested on the state before the operand fetch (R200). -/

namespace Sys2Proof.Machine

/-- `JBb addr` (R201). -/
def execJbb (b : Fin 8) (addr8 : Byte) (s : State) : Result :=
  .next (s.advance.condJump (s.acc.getLsbD b.val) addr8)

/-- `JC addr` (R202). -/
def execJc (addr8 : Byte) (s : State) : Result := .next (s.advance.condJump s.cy addr8)

/-- `JNC addr` (R203). -/
def execJnc (addr8 : Byte) (s : State) : Result := .next (s.advance.condJump (!s.cy) addr8)

/-- `JZ addr` (R204). -/
def execJz (addr8 : Byte) (s : State) : Result := .next (s.advance.condJump (s.acc == 0) addr8)

/-- `JNZ addr` (R205). -/
def execJnz (addr8 : Byte) (s : State) : Result := .next (s.advance.condJump (s.acc != 0) addr8)

/-- `JF0 addr` (R206). -/
def execJf0 (addr8 : Byte) (s : State) : Result := .next (s.advance.condJump s.f0 addr8)

/-- `JF1 addr` (R207). -/
def execJf1 (addr8 : Byte) (s : State) : Result := .next (s.advance.condJump s.f1 addr8)

/-- `JT0 addr` (R208). -/
def execJt0 (addr8 : Byte) (s : State) : Result := .next (s.advance.condJump s.t0In addr8)

/-- `JNT0 addr` (R209). -/
def execJnt0 (addr8 : Byte) (s : State) : Result := .next (s.advance.condJump (!s.t0In) addr8)

/-- `JT1 addr` (R210). -/
def execJt1 (addr8 : Byte) (s : State) : Result := .next (s.advance.condJump s.t1In addr8)

/-- `JNT1 addr` (R211). -/
def execJnt1 (addr8 : Byte) (s : State) : Result := .next (s.advance.condJump (!s.t1In) addr8)

/-- `JNI addr` (R212): jumps if the request is asserted; a sample not asserted is an unresolved poll. -/
def execJni (addr8 : Byte) (s : State) : Result :=
  .next ((s.notePoll (!s.intIn)).advance.condJump s.intIn addr8)

/-- `JTF addr` (R213): the flag is cleared by the test, taken or not. -/
def execJtf (addr8 : Byte) (s : State) : Result :=
  .next (s.clearTimerFlag.advance.condJump s.timerFlag addr8)

/-- `DJNZ Rr,addr` (R214): the new value is tested. -/
def execDjnzR (r : Fin 8) (addr8 : Byte) (s : State) : Result :=
  .next ((s.setReg r (s.reg r - 1)).advance.condJump (s.reg r - 1 != 0) addr8)

/-- `JMP addr` (R215). -/
def execJmp (aHi : BitVec 3) (addr8 : Byte) (s : State) : Result :=
  .next (s.advance2.setPc (s.bankTarget aHi addr8))

/-- `JMPP @A` (R216): table and target lie in the page of the address after the opcode. -/
def execJmppAtA (s : State) : Result :=
  .next (s.advance.setPc (inPage s.advance.pc (s.readProg (inPage s.advance.pc s.acc))))

/-- `CALL addr` (R217): the address after the operand byte is pushed. -/
def execCall (aHi : BitVec 3) (addr8 : Byte) (s : State) : Result :=
  .next (s.advance2.push.setPc (s.bankTarget aHi addr8))

/-- `RET` (R218): the popped flags are discarded. -/
def execRet (s : State) : Result := .next (s.advance.popSp.setPc s.popAddr)

/-- `RETR` (R219). -/
def execRetr (s : State) : Result := .next s.advance.returnFromInterrupt

end Sys2Proof.Machine
end

