-- ==== Sys2Proof/Machine/Control.lean ====
section
/-! DEFINITION. Flag, bank-select, status-word and interrupt-enable instructions and NOP
(`spec/45_flags_control.md`). -/

namespace Sys2Proof.Machine

/-- `CLR C` (R230). -/
def execClrC (s : State) : Result := .next { s.advance with cy := false }

/-- `CPL C` (R231). -/
def execCplC (s : State) : Result := .next { s.advance with cy := !s.cy }

/-- `CLR F0` (R232). -/
def execClrF0 (s : State) : Result := .next { s.advance with f0 := false }

/-- `CPL F0` (R233). -/
def execCplF0 (s : State) : Result := .next { s.advance with f0 := !s.f0 }

/-- `CLR F1` (R234). -/
def execClrF1 (s : State) : Result := .next { s.advance with f1 := false }

/-- `CPL F1` (R235). -/
def execCplF1 (s : State) : Result := .next { s.advance with f1 := !s.f1 }

/-- `SEL RB0` (R236). -/
def execSelRB0 (s : State) : Result := .next { s.advance with bs := false }

/-- `SEL RB1` (R237). -/
def execSelRB1 (s : State) : Result := .next { s.advance with bs := true }

/-- `SEL MB0` (R238). -/
def execSelMB0 (s : State) : Result := .next (s.advance.selectBank false)

/-- `SEL MB1` (R239). -/
def execSelMB1 (s : State) : Result := .next (s.advance.selectBank true)

/-- `MOV A,PSW` (R240). -/
def execMovAPsw (s : State) : Result := .next (s.advance.setAcc s.psw)

/-- `MOV PSW,A` (R241). -/
def execMovPswA (s : State) : Result := .next (s.advance.setPsw s.acc)

/-- `EN I` (R242). -/
def execEnI (s : State) : Result := .next { s.advance with xirqEnabled := true }

/-- `DIS I` (R243). -/
def execDisI (s : State) : Result := .next { s.advance with xirqEnabled := false }

/-- `EN TCNTI` (R244). -/
def execEnTcnti (s : State) : Result := .next { s.advance with tirqEnabled := true }

/-- `DIS TCNTI` (R245): a pending timer request is discarded. -/
def execDisTcnti (s : State) : Result := .next { s.advance with tirqEnabled := false, timerOverflow := false }

/-- `NOP` (R246). -/
def execNop (s : State) : Result := .next s.advance

end Sys2Proof.Machine
end

