-- ==== Sys2Proof/Machine/Illegal.lean ====
section
/-! DEFINITION. The 26 unassigned opcode values (R104): each executes the illegal operation of R247, a 1-byte
no-operation that emits `Diag(op, a0)` and changes no visible state but `pc`. -/

namespace Sys2Proof.Machine

/-- Opcode 0x01, unassigned (R104): the illegal operation (R247). -/
def execIllegal01 (s : State) : Result := .next (s.illegalOp 0x01#8)

/-- Opcode 0x06, unassigned (R104): the illegal operation (R247). -/
def execIllegal06 (s : State) : Result := .next (s.illegalOp 0x06#8)

/-- Opcode 0x0B, unassigned (R104): the illegal operation (R247). -/
def execIllegal0B (s : State) : Result := .next (s.illegalOp 0x0B#8)

/-- Opcode 0x22, unassigned (R104): the illegal operation (R247). -/
def execIllegal22 (s : State) : Result := .next (s.illegalOp 0x22#8)

/-- Opcode 0x33, unassigned (R104): the illegal operation (R247). -/
def execIllegal33 (s : State) : Result := .next (s.illegalOp 0x33#8)

/-- Opcode 0x38, unassigned (R104): the illegal operation (R247). -/
def execIllegal38 (s : State) : Result := .next (s.illegalOp 0x38#8)

/-- Opcode 0x3B, unassigned (R104): the illegal operation (R247). -/
def execIllegal3B (s : State) : Result := .next (s.illegalOp 0x3B#8)

/-- Opcode 0x63, unassigned (R104): the illegal operation (R247). -/
def execIllegal63 (s : State) : Result := .next (s.illegalOp 0x63#8)

/-- Opcode 0x66, unassigned (R104): the illegal operation (R247). -/
def execIllegal66 (s : State) : Result := .next (s.illegalOp 0x66#8)

/-- Opcode 0x73, unassigned (R104): the illegal operation (R247). -/
def execIllegal73 (s : State) : Result := .next (s.illegalOp 0x73#8)

/-- Opcode 0x82, unassigned (R104): the illegal operation (R247). -/
def execIllegal82 (s : State) : Result := .next (s.illegalOp 0x82#8)

/-- Opcode 0x87, unassigned (R104): the illegal operation (R247). -/
def execIllegal87 (s : State) : Result := .next (s.illegalOp 0x87#8)

/-- Opcode 0x8B, unassigned (R104): the illegal operation (R247). -/
def execIllegal8B (s : State) : Result := .next (s.illegalOp 0x8B#8)

/-- Opcode 0x9B, unassigned (R104): the illegal operation (R247). -/
def execIllegal9B (s : State) : Result := .next (s.illegalOp 0x9B#8)

/-- Opcode 0xA2, unassigned (R104): the illegal operation (R247). -/
def execIllegalA2 (s : State) : Result := .next (s.illegalOp 0xA2#8)

/-- Opcode 0xA6, unassigned (R104): the illegal operation (R247). -/
def execIllegalA6 (s : State) : Result := .next (s.illegalOp 0xA6#8)

/-- Opcode 0xB7, unassigned (R104): the illegal operation (R247). -/
def execIllegalB7 (s : State) : Result := .next (s.illegalOp 0xB7#8)

/-- Opcode 0xC0, unassigned (R104): the illegal operation (R247). -/
def execIllegalC0 (s : State) : Result := .next (s.illegalOp 0xC0#8)

/-- Opcode 0xC1, unassigned (R104): the illegal operation (R247). -/
def execIllegalC1 (s : State) : Result := .next (s.illegalOp 0xC1#8)

/-- Opcode 0xC2, unassigned (R104): the illegal operation (R247). -/
def execIllegalC2 (s : State) : Result := .next (s.illegalOp 0xC2#8)

/-- Opcode 0xC3, unassigned (R104): the illegal operation (R247). -/
def execIllegalC3 (s : State) : Result := .next (s.illegalOp 0xC3#8)

/-- Opcode 0xD6, unassigned (R104): the illegal operation (R247). -/
def execIllegalD6 (s : State) : Result := .next (s.illegalOp 0xD6#8)

/-- Opcode 0xE0, unassigned (R104): the illegal operation (R247). -/
def execIllegalE0 (s : State) : Result := .next (s.illegalOp 0xE0#8)

/-- Opcode 0xE1, unassigned (R104): the illegal operation (R247). -/
def execIllegalE1 (s : State) : Result := .next (s.illegalOp 0xE1#8)

/-- Opcode 0xE2, unassigned (R104): the illegal operation (R247). -/
def execIllegalE2 (s : State) : Result := .next (s.illegalOp 0xE2#8)

/-- Opcode 0xF3, unassigned (R104): the illegal operation (R247). -/
def execIllegalF3 (s : State) : Result := .next (s.illegalOp 0xF3#8)

end Sys2Proof.Machine
end

