-- ==== Sys2Proof/Machine/IncRotate.lean ====
section
/-! DEFINITION. INC, DEC and the rotates (`spec/43_incdec_rotate.md`). Only RLC and RRC write `cy`. -/

namespace Sys2Proof.Machine

/-- `INC A` (R180). -/
def execIncA (s : State) : Result := .next (s.advance.setAcc (s.acc + 1))

/-- `DEC A` (R181). -/
def execDecA (s : State) : Result := .next (s.advance.setAcc (s.acc - 1))

/-- `INC Rr` (R182). -/
def execIncR (r : Fin 8) (s : State) : Result := .next (s.advance.setReg r (s.reg r + 1))

/-- `DEC Rr` (R183). -/
def execDecR (r : Fin 8) (s : State) : Result := .next (s.advance.setReg r (s.reg r - 1))

/-- `INC @Rr` (R184): the address is computed once, before the write. -/
def execIncInd (r : Fin 2) (s : State) : Result := .next (s.advance.setAtInd r (s.atInd r + 1))

/-- `RL A` (R185). -/
def execRlA (s : State) : Result := .next (s.advance.setAcc (s.acc.extractLsb' 0 7 ++ s.acc.extractLsb' 7 1))

/-- `RLC A` (R186). -/
def execRlcA (s : State) : Result := .next s.advance.rotateLeftCarry

/-- `RR A` (R187). -/
def execRrA (s : State) : Result := .next (s.advance.setAcc (s.acc.extractLsb' 0 1 ++ s.acc.extractLsb' 1 7))

/-- `RRC A` (R188). -/
def execRrcA (s : State) : Result := .next s.advance.rotateRightCarry

end Sys2Proof.Machine
end

