-- ==== Sys2Proof/Machine/Logic.lean ====
section
/-! DEFINITION. ANL, ORL, XRL on the accumulator, CLR A and CPL A (`spec/41_logic.md`). No flag is written. -/

namespace Sys2Proof.Machine

/-- `ANL A,Rr` (R140). -/
def execAnlAR (r : Fin 8) (s : State) : Result := .next (s.advance.setAcc (s.acc &&& s.reg r))

/-- `ANL A,@Rr` (R141). -/
def execAnlAInd (r : Fin 2) (s : State) : Result := .next (s.advance.setAcc (s.acc &&& s.atInd r))

/-- `ANL A,#data` (R142). -/
def execAnlAImm (data : Byte) (s : State) : Result := .next (s.advance2.setAcc (s.acc &&& data))

/-- `ORL A,Rr` (R143). -/
def execOrlAR (r : Fin 8) (s : State) : Result := .next (s.advance.setAcc (s.acc ||| s.reg r))

/-- `ORL A,@Rr` (R144). -/
def execOrlAInd (r : Fin 2) (s : State) : Result := .next (s.advance.setAcc (s.acc ||| s.atInd r))

/-- `ORL A,#data` (R145). -/
def execOrlAImm (data : Byte) (s : State) : Result := .next (s.advance2.setAcc (s.acc ||| data))

/-- `XRL A,Rr` (R146). -/
def execXrlAR (r : Fin 8) (s : State) : Result := .next (s.advance.setAcc (s.acc ^^^ s.reg r))

/-- `XRL A,@Rr` (R147). -/
def execXrlAInd (r : Fin 2) (s : State) : Result := .next (s.advance.setAcc (s.acc ^^^ s.atInd r))

/-- `XRL A,#data` (R148). -/
def execXrlAImm (data : Byte) (s : State) : Result := .next (s.advance2.setAcc (s.acc ^^^ data))

/-- `CLR A` (R149). -/
def execClrA (s : State) : Result := .next (s.advance.setAcc 0x00)

/-- `CPL A` (R150). -/
def execCplA (s : State) : Result := .next (s.advance.setAcc (s.acc ^^^ 0xFF))

end Sys2Proof.Machine
end

