-- ==== Sys2Proof/Machine/Move.lean ====
section
/-! DEFINITION. MOV, XCH, XCHD, SWAP, MOVP, MOVP3 and the MOVX read (`spec/42_move_exchange.md`). No flag is written. -/

namespace Sys2Proof.Machine

/-- `MOV A,Rr` (R160). -/
def execMovAR (r : Fin 8) (s : State) : Result := .next (s.advance.setAcc (s.reg r))

/-- `MOV A,@Rr` (R161). -/
def execMovAInd (r : Fin 2) (s : State) : Result := .next (s.advance.setAcc (s.atInd r))

/-- `MOV A,#data` (R162). -/
def execMovAImm (data : Byte) (s : State) : Result := .next (s.advance2.setAcc data)

/-- `MOV Rr,A` (R163). -/
def execMovRA (r : Fin 8) (s : State) : Result := .next (s.advance.setReg r s.acc)

/-- `MOV @Rr,A` (R164). -/
def execMovIndA (r : Fin 2) (s : State) : Result := .next (s.advance.setAtInd r s.acc)

/-- `MOV Rr,#data` (R165). -/
def execMovRImm (r : Fin 8) (data : Byte) (s : State) : Result := .next (s.advance2.setReg r data)

/-- `MOV @Rr,#data` (R166). -/
def execMovIndImm (r : Fin 2) (data : Byte) (s : State) : Result := .next (s.advance2.setAtInd r data)

/-- `XCH A,Rr` (R167). -/
def execXchAR (r : Fin 8) (s : State) : Result := .next ((s.advance.setReg r s.acc).setAcc (s.reg r))

/-- `XCH A,@Rr` (R168): the address is computed once, before the write. -/
def execXchAInd (r : Fin 2) (s : State) : Result := .next ((s.advance.setAtInd r s.acc).setAcc (s.atInd r))

/-- `hi[7:4] ++ lo[3:0]`, the nibble joins of XCHD (R169). -/
def joinNibbles (hi lo : Byte) : Byte := hi.extractLsb' 4 4 ++ lo.extractLsb' 0 4

/-- `XCHD A,@Rr` (R169): the low nibbles are exchanged. -/
def execXchdAInd (r : Fin 2) (s : State) : Result :=
  .next ((s.advance.setAtInd r (joinNibbles (s.atInd r) s.acc)).setAcc (joinNibbles s.acc (s.atInd r)))

/-- `SWAP A` (R170). -/
def execSwapA (s : State) : Result := .next (s.advance.setAcc (s.acc.extractLsb' 0 4 ++ s.acc.extractLsb' 4 4))

/-- `MOVP A,@A` (R171): the page is that of the address after the opcode. -/
def execMovpAAtA (s : State) : Result := .next (s.advance.setAcc (s.readProg (inPage s.advance.pc s.acc)))

/-- `MOVP3 A,@A` (R172): always page 3. -/
def execMovp3AAtA (s : State) : Result := .next (s.advance.setAcc (s.readProg (inPage 0x300 s.acc)))

/-- `MOVX A,@Rr` (R173): all 8 bits of the register are the address, sampled at `cycles` before the cost. -/
def execMovxAInd (r : Fin 2) (s : State) : Result := .next (s.advance.setAcc (s.extRead (s.pointer r)))

end Sys2Proof.Machine
end

