-- ==== Sys2Proof/Machine/TimerIo.lean ====
section
/-! DEFINITION. Timer/counter and port instructions (`spec/46_timer_io.md`, sections 1 and 2). -/

namespace Sys2Proof.Machine

/-- `STRT T` (R260). -/
def execStrtT (s : State) : Result := .next { s.advance with mode := .timer, prescaler := 0 }

/-- `STRT CNT` (R261): entering counter mode seeds the history with the current level. -/
def execStrtCnt (s : State) : Result :=
  .next { s.advance with
    t1History := if s.mode = .counter then s.t1History else 0b0#1 ++ BitVec.ofBool s.t1In
    mode := .counter }

/-- `STOP TCNT` (R262). -/
def execStopTcnt (s : State) : Result := .next { s.advance with mode := .off }

/-- `MOV A,T` (R263). -/
def execMovAT (s : State) : Result := .next (s.advance.setAcc s.timerCounter)

/-- `MOV T,A` (R264). -/
def execMovTA (s : State) : Result := .next { s.advance with timerCounter := s.acc }

/-- `IN A,P1` (R265): the pins, ANDed with the latch. -/
def execInAP1 (s : State) : Result := .next (s.advance.setAcc (s.portIn .p1 &&& s.latch .p1))

/-- `IN A,P2` (R265). -/
def execInAP2 (s : State) : Result := .next (s.advance.setAcc (s.portIn .p2 &&& s.latch .p2))

/-- `OUTL P1,A` (R266). -/
def execOutlP1A (s : State) : Result := .next (s.advance.outPort .p1 s.acc)

/-- `OUTL P2,A` (R266). -/
def execOutlP2A (s : State) : Result := .next (s.advance.outPort .p2 s.acc)

/-- `ANL P1,#data` (R267): on the latch, not the pins. -/
def execAnlP1Imm (data : Byte) (s : State) : Result := .next (s.advance2.outPort .p1 (s.latch .p1 &&& data))

/-- `ANL P2,#data` (R267). -/
def execAnlP2Imm (data : Byte) (s : State) : Result := .next (s.advance2.outPort .p2 (s.latch .p2 &&& data))

/-- `ORL P1,#data` (R268). -/
def execOrlP1Imm (data : Byte) (s : State) : Result := .next (s.advance2.outPort .p1 (s.latch .p1 ||| data))

/-- `ORL P2,#data` (R268). -/
def execOrlP2Imm (data : Byte) (s : State) : Result := .next (s.advance2.outPort .p2 (s.latch .p2 ||| data))

end Sys2Proof.Machine
end

