-- ==== Sys2Proof/Machine/Unsupported.lean ====
section
/-! DEFINITION. The 10 rows whose effect needs an interface the block does not have (`spec/46_timer_io.md`, section
3): execution is `raise Unsupported(op, a0)`, no successor state, no operand byte consumed (R269, R322). -/

namespace Sys2Proof.Machine

/-- `MOVX @Rr,A` (R270): an external-memory write. -/
def execMovxIndA (r : Fin 2) (s : State) : Result := .refused (.unsupported (0b1001000#7 ++ ptrBits r) s.pc)

/-- `OUTL BUS,A` (R271): the BUS port. -/
def execOutlBusA (s : State) : Result := .refused (.unsupported 0x02 s.pc)

/-- `INS A,BUS` (R272): the BUS port. -/
def execInsABus (s : State) : Result := .refused (.unsupported 0x08 s.pc)

/-- `ORL BUS,#data` (R273): the BUS port. -/
def execOrlBusImm (_data : Byte) (s : State) : Result := .refused (.unsupported 0x88 s.pc)

/-- `ANL BUS,#data` (R274): the BUS port. -/
def execAnlBusImm (_data : Byte) (s : State) : Result := .refused (.unsupported 0x98 s.pc)

/-- `MOVD A,Pp` (R275): the port expander. -/
def execMovdAPp (p : Nat) (s : State) : Result := .refused (.unsupported (0b000011#6 ++ portBits p) s.pc)

/-- `MOVD Pp,A` (R276): the port expander. -/
def execMovdPpA (p : Nat) (s : State) : Result := .refused (.unsupported (0b001111#6 ++ portBits p) s.pc)

/-- `ORLD Pp,A` (R277): the port expander. -/
def execOrldPpA (p : Nat) (s : State) : Result := .refused (.unsupported (0b100011#6 ++ portBits p) s.pc)

/-- `ANLD Pp,A` (R278): the port expander. -/
def execAnldPpA (p : Nat) (s : State) : Result := .refused (.unsupported (0b100111#6 ++ portBits p) s.pc)

/-- `ENT0 CLK` (R279): the clock output. -/
def execEnt0Clk (s : State) : Result := .refused (.unsupported 0x75 s.pc)

end Sys2Proof.Machine
end

