-- ==== Sys2Proof/Machine/Dispatch.lean ====
section
/-! DEFINITION. The dispatch: one arm per constructor of `Instr`, each one call of the instruction's meaning (R301). -/

namespace Sys2Proof.Machine

/-- One instruction's own effect, from the state whose pc is the address of its opcode byte (R300):
the fetch of its bytes and the effect its rule gives, before Account and CheckInterrupts. -/
def exec (i : Instr) (s : State) : Host.Outcome State Fault Refusal :=
  match i with
  -- Arithmetic instructions
  | .addAR r => Sys2Proof.Machine.execAddAR r s
  | .addAInd r => Sys2Proof.Machine.execAddAInd r s
  | .addAImm data => Sys2Proof.Machine.execAddAImm data s
  | .addcAR r => Sys2Proof.Machine.execAddcAR r s
  | .addcAInd r => Sys2Proof.Machine.execAddcAInd r s
  | .addcAImm data => Sys2Proof.Machine.execAddcAImm data s
  | .daA => Sys2Proof.Machine.execDaA s
  -- Logic instructions
  | .anlAR r => Sys2Proof.Machine.execAnlAR r s
  | .anlAInd r => Sys2Proof.Machine.execAnlAInd r s
  | .anlAImm data => Sys2Proof.Machine.execAnlAImm data s
  | .orlAR r => Sys2Proof.Machine.execOrlAR r s
  | .orlAInd r => Sys2Proof.Machine.execOrlAInd r s
  | .orlAImm data => Sys2Proof.Machine.execOrlAImm data s
  | .xrlAR r => Sys2Proof.Machine.execXrlAR r s
  | .xrlAInd r => Sys2Proof.Machine.execXrlAInd r s
  | .xrlAImm data => Sys2Proof.Machine.execXrlAImm data s
  | .clrA => Sys2Proof.Machine.execClrA s
  | .cplA => Sys2Proof.Machine.execCplA s
  -- Move and exchange instructions
  | .movAR r => Sys2Proof.Machine.execMovAR r s
  | .movAInd r => Sys2Proof.Machine.execMovAInd r s
  | .movAImm data => Sys2Proof.Machine.execMovAImm data s
  | .movRA r => Sys2Proof.Machine.execMovRA r s
  | .movIndA r => Sys2Proof.Machine.execMovIndA r s
  | .movRImm r data => Sys2Proof.Machine.execMovRImm r data s
  | .movIndImm r data => Sys2Proof.Machine.execMovIndImm r data s
  | .xchAR r => Sys2Proof.Machine.execXchAR r s
  | .xchAInd r => Sys2Proof.Machine.execXchAInd r s
  | .xchdAInd r => Sys2Proof.Machine.execXchdAInd r s
  | .swapA => Sys2Proof.Machine.execSwapA s
  | .movpAAtA => Sys2Proof.Machine.execMovpAAtA s
  | .movp3AAtA => Sys2Proof.Machine.execMovp3AAtA s
  | .movxAInd r => Sys2Proof.Machine.execMovxAInd r s
  -- Increment, decrement and rotate instructions
  | .incA => Sys2Proof.Machine.execIncA s
  | .decA => Sys2Proof.Machine.execDecA s
  | .incR r => Sys2Proof.Machine.execIncR r s
  | .decR r => Sys2Proof.Machine.execDecR r s
  | .incInd r => Sys2Proof.Machine.execIncInd r s
  | .rlA => Sys2Proof.Machine.execRlA s
  | .rlcA => Sys2Proof.Machine.execRlcA s
  | .rrA => Sys2Proof.Machine.execRrA s
  | .rrcA => Sys2Proof.Machine.execRrcA s
  -- Jumps, calls and returns
  | .jbb b addr8 => Sys2Proof.Machine.execJbb b addr8 s
  | .jc addr8 => Sys2Proof.Machine.execJc addr8 s
  | .jnc addr8 => Sys2Proof.Machine.execJnc addr8 s
  | .jz addr8 => Sys2Proof.Machine.execJz addr8 s
  | .jnz addr8 => Sys2Proof.Machine.execJnz addr8 s
  | .jf0 addr8 => Sys2Proof.Machine.execJf0 addr8 s
  | .jf1 addr8 => Sys2Proof.Machine.execJf1 addr8 s
  | .jt0 addr8 => Sys2Proof.Machine.execJt0 addr8 s
  | .jnt0 addr8 => Sys2Proof.Machine.execJnt0 addr8 s
  | .jt1 addr8 => Sys2Proof.Machine.execJt1 addr8 s
  | .jnt1 addr8 => Sys2Proof.Machine.execJnt1 addr8 s
  | .jni addr8 => Sys2Proof.Machine.execJni addr8 s
  | .jtf addr8 => Sys2Proof.Machine.execJtf addr8 s
  | .djnzR r addr8 => Sys2Proof.Machine.execDjnzR r addr8 s
  | .jmp aHi addr8 => Sys2Proof.Machine.execJmp aHi addr8 s
  | .jmppAtA => Sys2Proof.Machine.execJmppAtA s
  | .call aHi addr8 => Sys2Proof.Machine.execCall aHi addr8 s
  | .ret => Sys2Proof.Machine.execRet s
  | .retr => Sys2Proof.Machine.execRetr s
  -- Flag, bank, status-word, interrupt-enable instructions and NOP
  | .clrC => Sys2Proof.Machine.execClrC s
  | .cplC => Sys2Proof.Machine.execCplC s
  | .clrF0 => Sys2Proof.Machine.execClrF0 s
  | .cplF0 => Sys2Proof.Machine.execCplF0 s
  | .clrF1 => Sys2Proof.Machine.execClrF1 s
  | .cplF1 => Sys2Proof.Machine.execCplF1 s
  | .selRB0 => Sys2Proof.Machine.execSelRB0 s
  | .selRB1 => Sys2Proof.Machine.execSelRB1 s
  | .selMB0 => Sys2Proof.Machine.execSelMB0 s
  | .selMB1 => Sys2Proof.Machine.execSelMB1 s
  | .movAPsw => Sys2Proof.Machine.execMovAPsw s
  | .movPswA => Sys2Proof.Machine.execMovPswA s
  | .enI => Sys2Proof.Machine.execEnI s
  | .disI => Sys2Proof.Machine.execDisI s
  | .enTcnti => Sys2Proof.Machine.execEnTcnti s
  | .disTcnti => Sys2Proof.Machine.execDisTcnti s
  | .nop => Sys2Proof.Machine.execNop s
  -- Timer and port instructions
  | .strtT => Sys2Proof.Machine.execStrtT s
  | .strtCnt => Sys2Proof.Machine.execStrtCnt s
  | .stopTcnt => Sys2Proof.Machine.execStopTcnt s
  | .movAT => Sys2Proof.Machine.execMovAT s
  | .movTA => Sys2Proof.Machine.execMovTA s
  | .inAP1 => Sys2Proof.Machine.execInAP1 s
  | .inAP2 => Sys2Proof.Machine.execInAP2 s
  | .outlP1A => Sys2Proof.Machine.execOutlP1A s
  | .outlP2A => Sys2Proof.Machine.execOutlP2A s
  | .anlP1Imm data => Sys2Proof.Machine.execAnlP1Imm data s
  | .anlP2Imm data => Sys2Proof.Machine.execAnlP2Imm data s
  | .orlP1Imm data => Sys2Proof.Machine.execOrlP1Imm data s
  | .orlP2Imm data => Sys2Proof.Machine.execOrlP2Imm data s
  -- Unsupported peripheral instructions (R269)
  | .movxIndA r => Sys2Proof.Machine.execMovxIndA r s
  | .outlBusA => Sys2Proof.Machine.execOutlBusA s
  | .insABus => Sys2Proof.Machine.execInsABus s
  | .orlBusImm data => Sys2Proof.Machine.execOrlBusImm data s
  | .anlBusImm data => Sys2Proof.Machine.execAnlBusImm data s
  | .movdAPp p => Sys2Proof.Machine.execMovdAPp p s
  | .movdPpA p => Sys2Proof.Machine.execMovdPpA p s
  | .orldPpA p => Sys2Proof.Machine.execOrldPpA p s
  | .anldPpA p => Sys2Proof.Machine.execAnldPpA p s
  | .ent0Clk => Sys2Proof.Machine.execEnt0Clk s
  -- The 26 unassigned opcode values (R104, R247)
  | .illegal01 => Sys2Proof.Machine.execIllegal01 s
  | .illegal06 => Sys2Proof.Machine.execIllegal06 s
  | .illegal0B => Sys2Proof.Machine.execIllegal0B s
  | .illegal22 => Sys2Proof.Machine.execIllegal22 s
  | .illegal33 => Sys2Proof.Machine.execIllegal33 s
  | .illegal38 => Sys2Proof.Machine.execIllegal38 s
  | .illegal3B => Sys2Proof.Machine.execIllegal3B s
  | .illegal63 => Sys2Proof.Machine.execIllegal63 s
  | .illegal66 => Sys2Proof.Machine.execIllegal66 s
  | .illegal73 => Sys2Proof.Machine.execIllegal73 s
  | .illegal82 => Sys2Proof.Machine.execIllegal82 s
  | .illegal87 => Sys2Proof.Machine.execIllegal87 s
  | .illegal8B => Sys2Proof.Machine.execIllegal8B s
  | .illegal9B => Sys2Proof.Machine.execIllegal9B s
  | .illegalA2 => Sys2Proof.Machine.execIllegalA2 s
  | .illegalA6 => Sys2Proof.Machine.execIllegalA6 s
  | .illegalB7 => Sys2Proof.Machine.execIllegalB7 s
  | .illegalC0 => Sys2Proof.Machine.execIllegalC0 s
  | .illegalC1 => Sys2Proof.Machine.execIllegalC1 s
  | .illegalC2 => Sys2Proof.Machine.execIllegalC2 s
  | .illegalC3 => Sys2Proof.Machine.execIllegalC3 s
  | .illegalD6 => Sys2Proof.Machine.execIllegalD6 s
  | .illegalE0 => Sys2Proof.Machine.execIllegalE0 s
  | .illegalE1 => Sys2Proof.Machine.execIllegalE1 s
  | .illegalE2 => Sys2Proof.Machine.execIllegalE2 s
  | .illegalF3 => Sys2Proof.Machine.execIllegalF3 s

end Sys2Proof.Machine
end

