-- ==== Sys2Proof/Machine/Step.lean ====
section
/-! DEFINITION. One step: an instruction and, if an interrupt is accepted at its boundary, the entry (R300). -/

namespace Sys2Proof.Machine

/-- `Step()` (R300, R302): the poll bit is cleared, the instruction at `pc` executes, its cycles are accounted and the
interrupts are checked; an unsupported opcode has no successor. -/
def step (s : State) : Host.Outcome State Fault Refusal :=
  match exec s.fetchInstr s.beginStep with
  | .next t => .next (t.endStep s.fetchInstr.cycles)
  | .fault f => .fault f
  | .refused r => .refused r

/-- `s` with the instruction whose bits are `w` (those from `nbits` on are 0) stored where `step` fetches next: the
opcode byte at `pc`, the operand byte at `IncPC(pc)`. It stands for loading a program from outside (log entry 1). -/
def State.withFetchWord (s : State) (nbits w : Nat) : State :=
  { s with
    prog := (s.prog.write (s.incPc s.pc).toNat (BitVec.ofNat 8 (w % 2 ^ nbits / 256))).write s.pc.toNat
      (BitVec.ofNat 8 (w % 2 ^ nbits)) }

end Sys2Proof.Machine
end

