-- ==== Sys2Proof/Machine/Session.lean ====
section
/-! DEFINITION. The host interface around the step: creation from the two images, `Run(N)` and the inspection snapshot
(R52, R78, R350, R370). -/

namespace Sys2Proof.Machine

/-- Why a machine is not created (R78, R350). -/
inductive CreateReject where
  /-- The program image does not have exactly 4096 bytes: "ROM load failure" (R78). -/
  | romSize (bytes : Nat)
  /-- The data-store image does not have exactly 128 bytes (R350). -/
  | ramSize (bytes : Nat)
deriving DecidableEq, Repr

/-- What creation gives. -/
inductive Creation where
  | created (s : State)
  | rejected (why : CreateReject)
deriving DecidableEq, Repr

/-- The memory that holds a list of bytes from address `a` on, in canonical form. -/
def Memory.ofBytes (a : Nat) : List Byte → Memory
  | [] => []
  | b :: bs => if b = Memory.blank then Memory.ofBytes (a + 1) bs else (a, b) :: Memory.ofBytes (a + 1) bs

/-- Creation (power-up): `PROG <- ROM`, `DATA <- RAM_INIT`, the output trace empty, then `Reset()` (R350). -/
def create (rom ramInit : List Byte) : Creation :=
  if rom.length = progSize then
    if ramInit.length = dataSize then
      .created { State.reset with prog := Memory.ofBytes 0 rom, data := Memory.ofBytes 0 ramInit }
    else .rejected (.ramSize ramInit.length)
  else .rejected (.romSize rom.length)

/-- Steps while `cycles` is below `target`, at most `fuel` of them: the loop of `Run` (R370). Every step accounts at
least one cycle, so a fuel of `target - cycles` is never used up. -/
def runTo (target : Nat) : Nat → State → Result
  | 0, s => .next s
  | fuel + 1, s =>
    if s.cycles < target then
      match step s with
      | .next t => runTo target fuel t
      | .fault f => .fault f
      | .refused r => .refused r
    else .next s

/-- `Run(N)` (R370): whole steps until the budget is met; the overshoot is carried in `cycle_debt`. If a step is
refused the run has no result. -/
def run (n : Nat) (s : State) : Result :=
  if n ≤ s.cycleDebt then .next { s with cycleDebt := s.cycleDebt - n }
  else
    match runTo (s.cycles + (n - s.cycleDebt)) (n - s.cycleDebt) s with
    | .next t => .next { t with cycleDebt := t.cycles - (s.cycles + (n - s.cycleDebt)) }
    | .fault f => .fault f
    | .refused r => .refused r

/-- The inspection snapshot, "all state" of the block (R6): "accumulator, program counter, flags, register file, RAM, port
latches, timer state, and master cycle count" (R52) with the bank latch and its shadow (R22, R23), the interrupt
controller's state (R43 to R46), the cycle debt (R370) and the two stores byte for byte (R60, R61). -/
structure Snapshot where
  acc : Byte
  pc : Addr
  a11 : Bool
  a11Shadow : Bool
  psw : Byte
  f1 : Bool
  bank0 : List Byte
  bank1 : List Byte
  ram : List Byte
  rom : List Byte
  p1 : Byte
  p2 : Byte
  timerCounter : Byte
  prescaler : BitVec 5
  timerFlag : Bool
  timerOverflow : Bool
  t1History : BitVec 2
  mode : TimerMode
  xirqEnabled : Bool
  tirqEnabled : Bool
  irqInProgress : IrqState
  irqLastPollResult : Bool
  cycles : Nat
  cycleDebt : Nat
deriving DecidableEq, Repr

/-- Reading the snapshot changes nothing (R52): it is a function of the state. -/
def State.snapshot (s : State) : Snapshot where
  acc := s.acc
  pc := s.pc
  a11 := s.a11
  a11Shadow := s.a11Shadow
  psw := s.psw
  f1 := s.f1
  bank0 := (List.range 8).map s.readData
  bank1 := (List.range 8).map fun r => s.readData (24 + r)
  ram := (List.range dataSize).map s.readData
  rom := (List.range progSize).map fun a => s.readProg (BitVec.ofNat 12 a)
  p1 := s.p1
  p2 := s.p2
  timerCounter := s.timerCounter
  prescaler := s.prescaler
  timerFlag := s.timerFlag
  timerOverflow := s.timerOverflow
  t1History := s.t1History
  mode := s.mode
  xirqEnabled := s.xirqEnabled
  tirqEnabled := s.tirqEnabled
  irqInProgress := s.irqInProgress
  irqLastPollResult := s.irqLastPollResult
  cycles := s.cycles
  cycleDebt := s.cycleDebt

end Sys2Proof.Machine
end

