-- ==== Sys2Proof/Safety.lean ====
section
/-! DEFINITION. The terms claims use: the invariant of a safe run (R49), frames, the classes of opcodes (R110), and which
instructions write which part of the state (R22 to R47). -/

namespace Sys2Proof.Machine

/-! ## The invariant of every reachable state -/

/-- What R49 says of every reachable state, as far as the types do not say it already: (d), (e), the latch of R311, and
the canonical form of the two memories (R60, R61). -/
structure MachineInv (s : State) : Prop where
  /-- The data store is 128 bytes in canonical form. -/
  dataForm : s.data.wf dataSize = true
  /-- The program store is 4096 bytes in canonical form. -/
  progForm : s.prog.wf progSize = true
  /-- R49 (d): inside a handler `pc < 0x800` and `a11 = 0`. -/
  handlerLow : s.irqInProgress ≠ .idle → s.pc.toNat < 0x800 ∧ s.a11 = false
  /-- R49 (e): outside a handler the shadow is the latch. -/
  idleShadow : s.irqInProgress = .idle → s.a11Shadow = s.a11
  /-- R311: the sticky latch is set only while the timer interrupt is enabled. -/
  overflowEnabled : s.timerOverflow = true → s.tirqEnabled = true

/-! ## Frames -/

/-- Every byte of both memories reads as before. -/
def SameMemory (s t : State) : Prop :=
  (∀ a, t.readData a = s.readData a) ∧ ∀ a, t.readProg a = s.readProg a

/-- Every byte outside the data addresses `stored` reads as before. -/
def StoresOnly (stored : List Nat) (s t : State) : Prop :=
  (∀ a, a ∉ stored → t.readData a = s.readData a) ∧ ∀ a, t.readProg a = s.readProg a

/-- Nothing but `pc` has changed. -/
def ChangesPc (s t : State) : Prop := t = { s with pc := t.pc } ∧ SameMemory s t

/-- Nothing but `acc` and `pc` has changed. -/
def ChangesAccPc (s t : State) : Prop := t = { s with acc := t.acc, pc := t.pc } ∧ SameMemory s t

/-- Nothing but `acc`, `cy` and `pc` has changed. -/
def ChangesAccCyPc (s t : State) : Prop := t = { s with acc := t.acc, cy := t.cy, pc := t.pc } ∧ SameMemory s t

/-- Nothing but `acc`, `cy`, `ac` and `pc` has changed. -/
def ChangesAluPc (s t : State) : Prop :=
  t = { s with acc := t.acc, cy := t.cy, ac := t.ac, pc := t.pc } ∧ SameMemory s t

/-- Nothing but `pc` and the one data byte at `a`, which now reads `v`, has changed. -/
def StoresByte (a : Nat) (v : Byte) (s t : State) : Prop :=
  t = { s with data := t.data, pc := t.pc } ∧ t.readData a = v ∧ StoresOnly [a] s t

/-- Nothing but `acc`, `pc` and the one data byte at `a`, which now reads `v`, has changed. -/
def StoresByteAndAcc (a : Nat) (v : Byte) (s t : State) : Prop :=
  t = { s with data := t.data, acc := t.acc, pc := t.pc } ∧ t.readData a = v ∧ StoresOnly [a] s t

/-! ## Addresses -/

/-- One more than the highest program address that `pc` can be given: 2048 inside a handler, 4096 outside (R25, R26). -/
def pcLimit (s : State) : Nat := if s.irqInProgress = .idle then 4096 else 2048

/-- The address after a 1-byte instruction at `pc`, and of the operand byte of a 2-byte one (R24, R66). -/
def pcAfter1 (s : State) : Addr := s.incPc s.pc

/-- The address after a 2-byte instruction at `pc`. -/
def pcAfter2 (s : State) : Addr := s.incPc (s.incPc s.pc)

/-- Where a conditional jump at `pc` goes (R200): the page of the operand byte if taken, else the next instruction. -/
def JumpsTo (s t : State) (taken : Bool) (addr8 : Byte) : Prop :=
  if taken then t.pc.toNat = ((pcAfter1 s).toNat / 256 * 256 + addr8.toNat) % pcLimit s else t.pc = pcAfter2 s

/-! ## Results -/

/-- `bytes` decode to `i`, which costs `cycles` machine cycles (the 'Encoding' of an instruction rule). -/
def Encoded (i : Instr) (bytes : List Byte) (cycles : Nat) : Prop := decode bytes = .ok i [] ∧ i.cycles = cycles

/-- What the adder of R120 leaves in `acc`, `cy` and `ac` for `s.acc`, `b` and the carry-in `c`. -/
def AddResult (s t : State) (b : Byte) (c : Bool) : Prop :=
  t.acc.toNat = (s.acc.toNat + b.toNat + c.toNat) % 256 ∧
    (t.cy = true ↔ s.acc.toNat + b.toNat + c.toNat > 255) ∧
    (t.ac = true ↔ s.acc.toNat % 16 + b.toNat % 16 + c.toNat > 15)

/-- The flags of a stack entry and of the status word as a number: `cy ++ ac ++ f0 ++ bs` (R34, R28). -/
def flagsNumber (s : State) : Nat := 8 * s.cy.toNat + 4 * s.ac.toNat + 2 * s.f0.toNat + s.bs.toNat

/-- The stack entry `i` of `t` holds the return address `ret` and the flags of `s` (R34, R67). -/
def EntryHolds (t : State) (i : BitVec 3) (ret : Addr) (s : State) : Prop :=
  (t.readData (8 + 2 * i.toNat)).toNat = ret.toNat % 256 ∧
    (t.readData (9 + 2 * i.toNat)).toNat = 16 * flagsNumber s + ret.toNat / 256

/-- The two data addresses of stack entry `i` (R33). -/
def entryBytes (i : BitVec 3) : List Nat := [8 + 2 * i.toNat, 9 + 2 * i.toNat]

/-- `n` pushes in a row. -/
def pushes : Nat → State → State
  | 0, s => s
  | n + 1, s => pushes n s.push

/-- `exec` of the same instruction `n` times in a row. -/
def execTimes (i : Instr) : Nat → State → Result
  | 0, s => .next s
  | n + 1, s =>
    match exec i s with
    | .next t => execTimes i n t
    | .fault f => .fault f
    | .refused r => .refused r

/-- The packed-BCD byte of a number below 100. -/
def bcd (n : Nat) : Byte := BitVec.ofNat 8 (n / 10 * 16 + n % 10)

/-! ## The classes of opcode bytes (R110) -/

/-- The 23 unsupported opcode values (R110 b, R269). -/
def unsupportedOpcodes : List Byte :=
  [0x02, 0x08, 0x0C, 0x0D, 0x0E, 0x0F, 0x3C, 0x3D, 0x3E, 0x3F, 0x75, 0x88, 0x8C, 0x8D, 0x8E, 0x8F, 0x90, 0x91, 0x98,
    0x9C, 0x9D, 0x9E, 0x9F]

/-- The 26 illegal opcode values (R104), each with the instruction it decodes to. -/
def illegalOpcodes : List (Byte × Instr) :=
  [(0x01, .illegal01), (0x06, .illegal06), (0x0B, .illegal0B), (0x22, .illegal22), (0x33, .illegal33),
    (0x38, .illegal38), (0x3B, .illegal3B), (0x63, .illegal63), (0x66, .illegal66), (0x73, .illegal73),
    (0x82, .illegal82), (0x87, .illegal87), (0x8B, .illegal8B), (0x9B, .illegal9B), (0xA2, .illegalA2),
    (0xA6, .illegalA6), (0xB7, .illegalB7), (0xC0, .illegalC0), (0xC1, .illegalC1), (0xC2, .illegalC2),
    (0xC3, .illegalC3), (0xD6, .illegalD6), (0xE0, .illegalE0), (0xE1, .illegalE1), (0xE2, .illegalE2),
    (0xF3, .illegalF3)]

/-! ## Which instructions write which part of the state, as the state rules list them -/

/-- ADD and ADDC in every form. -/
def isAdd : Instr → Bool
  | .addAR _ | .addAInd _ | .addAImm _ | .addcAR _ | .addcAInd _ | .addcAImm _ => true
  | _ => false

/-- The instructions that write `acc` (R20): arithmetic, logic, rotates, the loads, the exchanges and the inputs. -/
def writesAcc : Instr → Bool
  | .addAR _ | .addAInd _ | .addAImm _ | .addcAR _ | .addcAInd _ | .addcAImm _ | .daA | .anlAR _ | .anlAInd _
  | .anlAImm _ | .orlAR _ | .orlAInd _ | .orlAImm _ | .xrlAR _ | .xrlAInd _ | .xrlAImm _ | .clrA | .cplA | .movAR _
  | .movAInd _ | .movAImm _ | .xchAR _ | .xchAInd _ | .xchdAInd _ | .swapA | .movpAAtA | .movp3AAtA | .movxAInd _
  | .incA | .decA | .rlA | .rlcA | .rrA | .rrcA | .movAPsw | .movAT | .inAP1 | .inAP2 => true
  | _ => false

/-- The instructions that R27 lists as writing `cy`. -/
def writesCy (i : Instr) : Bool :=
  isAdd i || i == .daA || i == .rlcA || i == .rrcA || i == .clrC || i == .cplC || i == .movPswA || i == .retr

/-- The instructions that R27 lists as writing `ac`. -/
def writesAc (i : Instr) : Bool := isAdd i || i == .movPswA || i == .retr

/-- The instructions that R27 lists as writing `f0`. -/
def writesF0 (i : Instr) : Bool := i == .clrF0 || i == .cplF0 || i == .movPswA || i == .retr

/-- The instructions that R27 lists as writing `bs`. -/
def writesBs (i : Instr) : Bool := i == .selRB0 || i == .selRB1 || i == .movPswA || i == .retr

/-- CALL to any target. -/
def isCall : Instr → Bool
  | .call _ _ => true
  | _ => false

/-- The instructions that R27 lists as writing `sp`. -/
def writesSp (i : Instr) : Bool := isCall i || i == .ret || i == .retr || i == .movPswA

/-- SEL MB0 and SEL MB1. -/
def isBankSelect (i : Instr) : Bool := i == .selMB0 || i == .selMB1

/-- The port writes (R36). -/
def writesPort : Instr → Bool
  | .outlP1A | .outlP2A | .anlP1Imm _ | .anlP2Imm _ | .orlP1Imm _ | .orlP2Imm _ => true
  | _ => false

/-- The instructions that emit an event: port writes and the illegal operation (R8). -/
def emitsEvent (i : Instr) : Bool := writesPort i || (illegalOpcodes.map Prod.snd).contains i

/-- JNI to any target. -/
def isJni : Instr → Bool
  | .jni _ => true
  | _ => false

/-- JTF to any target. -/
def isJtf : Instr → Bool
  | .jtf _ => true
  | _ => false

/-- The instructions that write a data-store byte: the register and indirect stores and CALL (R61, R65). -/
def writesData : Instr → Bool
  | .movRA _ | .movIndA _ | .movRImm _ _ | .movIndImm _ _ | .xchAR _ | .xchAInd _ | .xchdAInd _ | .incR _ | .decR _
  | .incInd _ | .djnzR _ _ | .call _ _ => true
  | _ => false

end Sys2Proof.Machine
end

