-- ==== Sys2Proof/Certificates/Slice0/Obligations.lean ====
section
/-! DEFINITION. The statements for the provers, each a proposition about the machine that cites the rules of `spec/` it
formalises. `pcAfter1 s` and `pcAfter2 s` are the addresses after a 1-byte and a 2-byte instruction at `s.pc`. -/

open Sys2Proof Sys2Proof.Machine

/-! ## Encoding -/

/-- R91, R93: decoding the bytes of a well-formed instruction, with any bytes after them, gives it and those back. -/
def Obligations.DecodeEncodeRoundTrip : Prop :=
  ∀ (i : Instr) (rest : List Byte), i.wf = true → decode (encode i ++ rest) = .ok i rest

/-- R90, R110: every opcode byte decodes to a well-formed instruction whose encoding is that byte, and the operand byte
if the opcode takes one. -/
def Obligations.EncodeGivesDecodedBytesBack : Prop :=
  ∀ op b2 : Byte, (decodeOp op b2).wf = true ∧
    ((opLength op = 1 ∧ encode (decodeOp op b2) = [op]) ∨ (opLength op = 2 ∧ encode (decodeOp op b2) = [op, b2]))

/-- R104, R110: the 26 illegal bytes decode to the illegal rows, the 23 unsupported bytes are apart from them, and 207
bytes remain. -/
def Obligations.OpcodeClassesCover : Prop :=
  (∀ p ∈ illegalOpcodes, ∀ b2, decodeOp p.1 b2 = p.2) ∧
    illegalOpcodes.length = 26 ∧ unsupportedOpcodes.length = 23 ∧
    ((List.range 256).filter fun n =>
      !(unsupportedOpcodes.contains (BitVec.ofNat 8 n)) &&
        !((illegalOpcodes.map Prod.fst).contains (BitVec.ofNat 8 n))).length = 207

/-- R93, R94: the 66 opcodes of 2 bytes; the cost is 2 for them and for the listed 1-byte opcodes, 1 for every other. -/
def Obligations.LengthsAndCyclesOfOpcodes : Prop :=
  ∀ op b2 : Byte,
    opLength op = (if op ∈ ([0x03, 0x04, 0x12, 0x13, 0x14, 0x16, 0x23, 0x24, 0x26, 0x32, 0x34, 0x36, 0x43, 0x44, 0x46,
      0x52, 0x53, 0x54, 0x56, 0x64, 0x72, 0x74, 0x76, 0x84, 0x86, 0x88, 0x89, 0x8A, 0x92, 0x94, 0x96, 0x98, 0x99, 0x9A,
      0xA4, 0xB0, 0xB1, 0xB2, 0xB4, 0xB6, 0xB8, 0xB9, 0xBA, 0xBB, 0xBC, 0xBD, 0xBE, 0xBF, 0xC4, 0xC6, 0xD2, 0xD3, 0xD4,
      0xE4, 0xE6, 0xE8, 0xE9, 0xEA, 0xEB, 0xEC, 0xED, 0xEE, 0xEF, 0xF2, 0xF4, 0xF6] : List Byte) then 2 else 1) ∧
    (decodeOp op b2).cycles = (if opLength op = 2 ∨ op ∈ ([0x02, 0x08, 0x09, 0x0A, 0x0C, 0x0D, 0x0E, 0x0F, 0x39, 0x3A,
      0x3C, 0x3D, 0x3E, 0x3F, 0x80, 0x81, 0x83, 0x8C, 0x8D, 0x8E, 0x8F, 0x90, 0x91, 0x93, 0x9C, 0x9D, 0x9E, 0x9F, 0xA3,
      0xB3, 0xE3] : List Byte) then 2 else 1)

/-- Words written out from the encodings of R121, R142, R168, R185, R201, R214, R215, R217, R241, R261, R268, R274, R247:
one instruction of every family. -/
def Obligations.SpecEncodingsDecode : Prop :=
  [[0b01101010#8], [0b01010011#8, 0xF0], [0b00100000#8], [0b11100111#8], [0b11110010#8, 0x40], [0b11101010#8, 0x50],
      [0b01000100#8, 0x34], [0b00010100#8, 0x50], [0b11010111#8], [0b01000101#8], [0b10001010#8, 0x80],
      [0b10011000#8, 0x01], [0b00000001#8]].map decode =
    [.ok (.addAR 2) [], .ok (.anlAImm 0xF0) [], .ok (.xchAInd 0) [], .ok .rlA [], .ok (.jbb 7 0x40) [],
      .ok (.djnzR 2 0x50) [], .ok (.jmp 2 0x34) [], .ok (.call 0 0x50) [], .ok .movPswA [], .ok .strtCnt [],
      .ok (.orlP2Imm 0x80) [], .ok (.anlBusImm 0x01) [], .ok .illegal01 []]

/-! ## The step and its parts -/

/-- R300: when the bytes at `pc` decode to `i`, a step clears the poll bit, executes `i`, accounts its cycles and checks
the interrupts; a refused instruction is a refused step. -/
def Obligations.StepRunsDecodedInstruction : Prop :=
  ∀ (s : State) (i : Instr) (rest : List Byte),
    decode [s.readProg s.pc, s.readProg (s.incPc s.pc)] = .ok i rest → i.wf = true →
    (∀ t, exec i { s with irqLastPollResult := false } = .next t →
      step s = .next (t.account i.cycles).checkInterrupts) ∧
    (∀ r, exec i { s with irqLastPollResult := false } = .refused r → step s = .refused r)

/-- R25, R26: the increment and every write of `pc` are modulo 2048 inside a handler and modulo 4096 outside. -/
def Obligations.PcIncrementAndSetPc : Prop :=
  ∀ (s : State) (v : Addr),
    (s.incPc v).toNat = (v.toNat + 1) % (if s.irqInProgress = .idle then 4096 else 2048) ∧
    (s.setPc v).pc.toNat = v.toNat % (if s.irqInProgress = .idle then 4096 else 2048) ∧
    s.setPc v = { s with pc := (s.setPc v).pc }

/-- R31, R64: register `r` of the current bank is the data byte at `rb_base + r`, a write is seen there and nowhere else,
and `@Rr` names the byte at the low 7 bits of the pointer register. -/
def Obligations.OperandFormsNameDataBytes : Prop :=
  ∀ (s : State) (r : Fin 8) (q : Fin 2) (v : Byte),
    s.reg r = s.readData ((if s.bs = true then 24 else 0) + r.val) ∧
    (s.setReg r v).readData ((if s.bs = true then 24 else 0) + r.val) = v ∧
    StoresOnly [(if s.bs = true then 24 else 0) + r.val] s (s.setReg r v) ∧
    s.ind q = (s.readData ((if s.bs = true then 24 else 0) + q.val)).toNat % 128 ∧
    s.atInd q = s.readData (s.ind q)

/-- R300: a step that answers next costs the instruction's 1 or 2 cycles, or 2 more when an interrupt entry follows; the
entry leaves an interrupt in progress. -/
def Obligations.StepCost : Prop :=
  ∀ s t : State, step s = .next t →
    (s.fetchInstr.cycles = 1 ∨ s.fetchInstr.cycles = 2) ∧
    (t.cycles = s.cycles + s.fetchInstr.cycles ∨
      (t.cycles = s.cycles + s.fetchInstr.cycles + 2 ∧ t.irqInProgress ≠ .idle))

/-- R302, R322: a step whose next opcode is one of the 23 unsupported values is refused with that opcode and its address,
and every other step has a successor. -/
def Obligations.StepRefusesExactlyUnsupported : Prop :=
  ∀ s : State,
    (s.readProg s.pc ∈ unsupportedOpcodes → step s = .refused (.unsupported (s.readProg s.pc) s.pc)) ∧
    (s.readProg s.pc ∉ unsupportedOpcodes → ∃ t, step s = .next t)

/-! ## Arithmetic -/

/-- R120 to R126: ADD and ADDC in every form. -/
def Obligations.AddAndAddcResults : Prop :=
  ∀ s : State,
    (∀ r : Fin 8, Encoded (.addAR r) [0x68 + BitVec.ofNat 8 r.val] 1 ∧ ∃ t, exec (.addAR r) s = .next t ∧
      AddResult s t (s.reg r) false ∧ t.pc = pcAfter1 s ∧ ChangesAluPc s t) ∧
    (∀ r : Fin 2, Encoded (.addAInd r) [0x60 + BitVec.ofNat 8 r.val] 1 ∧ ∃ t, exec (.addAInd r) s = .next t ∧
      AddResult s t (s.atInd r) false ∧ t.pc = pcAfter1 s ∧ ChangesAluPc s t) ∧
    (∀ d : Byte, Encoded (.addAImm d) [0x03, d] 2 ∧ ∃ t, exec (.addAImm d) s = .next t ∧
      AddResult s t d false ∧ t.pc = pcAfter2 s ∧ ChangesAluPc s t) ∧
    (∀ r : Fin 8, Encoded (.addcAR r) [0x78 + BitVec.ofNat 8 r.val] 1 ∧ ∃ t, exec (.addcAR r) s = .next t ∧
      AddResult s t (s.reg r) s.cy ∧ t.pc = pcAfter1 s ∧ ChangesAluPc s t) ∧
    (∀ r : Fin 2, Encoded (.addcAInd r) [0x70 + BitVec.ofNat 8 r.val] 1 ∧ ∃ t, exec (.addcAInd r) s = .next t ∧
      AddResult s t (s.atInd r) s.cy ∧ t.pc = pcAfter1 s ∧ ChangesAluPc s t) ∧
    (∀ d : Byte, Encoded (.addcAImm d) [0x13, d] 2 ∧ ∃ t, exec (.addcAImm d) s = .next t ∧
      AddResult s t d s.cy ∧ t.pc = pcAfter2 s ∧ ChangesAluPc s t)

/-- R127: the two adjusts of DA A; `a1` and `c1` are the accumulator and the carry after the first. -/
def Obligations.DecimalAdjustResult : Prop :=
  ∀ s : State, Encoded .daA [0x57] 1 ∧ ∃ (t : State) (a1 : Nat) (c1 : Bool), exec .daA s = .next t ∧
    a1 = (if s.acc.toNat % 16 > 9 ∨ s.ac = true then (s.acc.toNat + 0x06) % 256 else s.acc.toNat) ∧
    (c1 = true ↔ s.cy = true ∨ ((s.acc.toNat % 16 > 9 ∨ s.ac = true) ∧ s.acc.toNat > 0xF9)) ∧
    (if a1 / 16 > 9 ∨ c1 = true then t.acc.toNat = (a1 + 0x60) % 256 ∧ t.cy = true
      else t.acc.toNat = a1 ∧ t.cy = c1) ∧
    t.pc = pcAfter1 s ∧ ChangesAccCyPc s t

/-- R121, R127 and vector V21: ADD A,Rr and then DA A adds two packed-BCD numbers below 100; the carry is the hundred. -/
def Obligations.DecimalAdjustAfterAddIsBcdSum : Prop :=
  ∀ (s : State) (r : Fin 8) (x y : Nat), x < 100 → y < 100 → s.acc = bcd x → s.reg r = bcd y →
    ∃ t u, exec (.addAR r) s = .next t ∧ exec .daA t = .next u ∧
      u.acc = bcd ((x + y) % 100) ∧ (u.cy = true ↔ x + y > 99)

/-! ## Logic -/

/-- R140 to R150: the logic instructions; no flag is written. -/
def Obligations.LogicResults : Prop :=
  ∀ s : State,
    (∀ r : Fin 8,
      (Encoded (.anlAR r) [0x58 + BitVec.ofNat 8 r.val] 1 ∧ ∃ t, exec (.anlAR r) s = .next t ∧
        t.acc = s.acc &&& s.reg r ∧ t.pc = pcAfter1 s ∧ ChangesAccPc s t) ∧
      (Encoded (.orlAR r) [0x48 + BitVec.ofNat 8 r.val] 1 ∧ ∃ t, exec (.orlAR r) s = .next t ∧
        t.acc = s.acc ||| s.reg r ∧ t.pc = pcAfter1 s ∧ ChangesAccPc s t) ∧
      (Encoded (.xrlAR r) [0xD8 + BitVec.ofNat 8 r.val] 1 ∧ ∃ t, exec (.xrlAR r) s = .next t ∧
        t.acc = s.acc ^^^ s.reg r ∧ t.pc = pcAfter1 s ∧ ChangesAccPc s t)) ∧
    (∀ r : Fin 2,
      (Encoded (.anlAInd r) [0x50 + BitVec.ofNat 8 r.val] 1 ∧ ∃ t, exec (.anlAInd r) s = .next t ∧
        t.acc = s.acc &&& s.atInd r ∧ t.pc = pcAfter1 s ∧ ChangesAccPc s t) ∧
      (Encoded (.orlAInd r) [0x40 + BitVec.ofNat 8 r.val] 1 ∧ ∃ t, exec (.orlAInd r) s = .next t ∧
        t.acc = s.acc ||| s.atInd r ∧ t.pc = pcAfter1 s ∧ ChangesAccPc s t) ∧
      (Encoded (.xrlAInd r) [0xD0 + BitVec.ofNat 8 r.val] 1 ∧ ∃ t, exec (.xrlAInd r) s = .next t ∧
        t.acc = s.acc ^^^ s.atInd r ∧ t.pc = pcAfter1 s ∧ ChangesAccPc s t)) ∧
    (∀ d : Byte,
      (Encoded (.anlAImm d) [0x53, d] 2 ∧ ∃ t, exec (.anlAImm d) s = .next t ∧
        t.acc = s.acc &&& d ∧ t.pc = pcAfter2 s ∧ ChangesAccPc s t) ∧
      (Encoded (.orlAImm d) [0x43, d] 2 ∧ ∃ t, exec (.orlAImm d) s = .next t ∧
        t.acc = s.acc ||| d ∧ t.pc = pcAfter2 s ∧ ChangesAccPc s t) ∧
      (Encoded (.xrlAImm d) [0xD3, d] 2 ∧ ∃ t, exec (.xrlAImm d) s = .next t ∧
        t.acc = s.acc ^^^ d ∧ t.pc = pcAfter2 s ∧ ChangesAccPc s t)) ∧
    (Encoded .clrA [0x27] 1 ∧ ∃ t, exec .clrA s = .next t ∧
      t.acc = 0x00 ∧ t.pc = pcAfter1 s ∧ ChangesAccPc s t) ∧
    (Encoded .cplA [0x37] 1 ∧ ∃ t, exec .cplA s = .next t ∧
      t.acc = s.acc ^^^ 0xFF ∧ t.pc = pcAfter1 s ∧ ChangesAccPc s t)

/-! ## Moves and exchanges -/

/-- R160 to R162, R170 to R173: the loads of the accumulator and SWAP A. -/
def Obligations.AccumulatorLoads : Prop :=
  ∀ s : State,
    (∀ r : Fin 8, Encoded (.movAR r) [0xF8 + BitVec.ofNat 8 r.val] 1 ∧ ∃ t, exec (.movAR r) s = .next t ∧
      t.acc = s.reg r ∧ t.pc = pcAfter1 s ∧ ChangesAccPc s t) ∧
    (∀ r : Fin 2, Encoded (.movAInd r) [0xF0 + BitVec.ofNat 8 r.val] 1 ∧ ∃ t, exec (.movAInd r) s = .next t ∧
      t.acc = s.atInd r ∧ t.pc = pcAfter1 s ∧ ChangesAccPc s t) ∧
    (∀ d : Byte, Encoded (.movAImm d) [0x23, d] 2 ∧ ∃ t, exec (.movAImm d) s = .next t ∧
      t.acc = d ∧ t.pc = pcAfter2 s ∧ ChangesAccPc s t) ∧
    (Encoded .swapA [0x47] 1 ∧ ∃ t, exec .swapA s = .next t ∧
      (∀ k : Fin 8, t.acc.getLsbD k.val = s.acc.getLsbD ((k.val + 4) % 8)) ∧ t.pc = pcAfter1 s ∧ ChangesAccPc s t) ∧
    (Encoded .movpAAtA [0xA3] 2 ∧ ∃ t, exec .movpAAtA s = .next t ∧
      t.acc = s.prog.read ((pcAfter1 s).toNat / 256 * 256 + s.acc.toNat) ∧ t.pc = pcAfter1 s ∧ ChangesAccPc s t) ∧
    (Encoded .movp3AAtA [0xE3] 2 ∧ ∃ t, exec .movp3AAtA s = .next t ∧
      t.acc = s.prog.read (0x300 + s.acc.toNat) ∧ t.pc = pcAfter1 s ∧ ChangesAccPc s t) ∧
    (∀ r : Fin 2, Encoded (.movxAInd r) [0x80 + BitVec.ofNat 8 r.val] 2 ∧ ∃ t, exec (.movxAInd r) s = .next t ∧
      t.acc = s.extRead (s.reg (Fin.castLE (by decide) r)) ∧ t.pc = pcAfter1 s ∧ ChangesAccPc s t)

/-- R163 to R166: the stores; the byte stored to is named by the register or the pointer before the store. -/
def Obligations.Stores : Prop :=
  ∀ s : State,
    (∀ r : Fin 8, Encoded (.movRA r) [0xA8 + BitVec.ofNat 8 r.val] 1 ∧ ∃ t, exec (.movRA r) s = .next t ∧
      StoresByte (s.regAddr r) s.acc s t ∧ t.pc = pcAfter1 s) ∧
    (∀ r : Fin 2, Encoded (.movIndA r) [0xA0 + BitVec.ofNat 8 r.val] 1 ∧ ∃ t, exec (.movIndA r) s = .next t ∧
      StoresByte (s.ind r) s.acc s t ∧ t.pc = pcAfter1 s) ∧
    (∀ (r : Fin 8) (d : Byte), Encoded (.movRImm r d) [0xB8 + BitVec.ofNat 8 r.val, d] 2 ∧
      ∃ t, exec (.movRImm r d) s = .next t ∧ StoresByte (s.regAddr r) d s t ∧ t.pc = pcAfter2 s) ∧
    (∀ (r : Fin 2) (d : Byte), Encoded (.movIndImm r d) [0xB0 + BitVec.ofNat 8 r.val, d] 2 ∧
      ∃ t, exec (.movIndImm r d) s = .next t ∧ StoresByte (s.ind r) d s t ∧ t.pc = pcAfter2 s)

/-- R167 to R169: the exchanges, whole and of the low nibbles. -/
def Obligations.Exchanges : Prop :=
  ∀ s : State,
    (∀ r : Fin 8, Encoded (.xchAR r) [0x28 + BitVec.ofNat 8 r.val] 1 ∧ ∃ t, exec (.xchAR r) s = .next t ∧
      t.acc = s.reg r ∧ StoresByteAndAcc (s.regAddr r) s.acc s t ∧ t.pc = pcAfter1 s) ∧
    (∀ r : Fin 2, Encoded (.xchAInd r) [0x20 + BitVec.ofNat 8 r.val] 1 ∧ ∃ t, exec (.xchAInd r) s = .next t ∧
      t.acc = s.atInd r ∧ StoresByteAndAcc (s.ind r) s.acc s t ∧ t.pc = pcAfter1 s) ∧
    (∀ r : Fin 2, Encoded (.xchdAInd r) [0x30 + BitVec.ofNat 8 r.val] 1 ∧ ∃ t m, exec (.xchdAInd r) s = .next t ∧
      t.acc.toNat = s.acc.toNat / 16 * 16 + (s.atInd r).toNat % 16 ∧
      m.toNat = (s.atInd r).toNat / 16 * 16 + s.acc.toNat % 16 ∧
      StoresByteAndAcc (s.ind r) m s t ∧ t.pc = pcAfter1 s)

/-! ## Increments, decrements and rotates -/

/-- R180 to R184: INC and DEC wrap modulo 256 and write no flag. -/
def Obligations.IncrementDecrementResults : Prop :=
  ∀ s : State,
    (Encoded .incA [0x17] 1 ∧ ∃ t, exec .incA s = .next t ∧
      t.acc.toNat = (s.acc.toNat + 1) % 256 ∧ t.pc = pcAfter1 s ∧ ChangesAccPc s t) ∧
    (Encoded .decA [0x07] 1 ∧ ∃ t, exec .decA s = .next t ∧
      t.acc.toNat = (s.acc.toNat + 255) % 256 ∧ t.pc = pcAfter1 s ∧ ChangesAccPc s t) ∧
    (∀ r : Fin 8, Encoded (.incR r) [0x18 + BitVec.ofNat 8 r.val] 1 ∧ ∃ t v, exec (.incR r) s = .next t ∧
      v.toNat = ((s.reg r).toNat + 1) % 256 ∧ StoresByte (s.regAddr r) v s t ∧ t.pc = pcAfter1 s) ∧
    (∀ r : Fin 8, Encoded (.decR r) [0xC8 + BitVec.ofNat 8 r.val] 1 ∧ ∃ t v, exec (.decR r) s = .next t ∧
      v.toNat = ((s.reg r).toNat + 255) % 256 ∧ StoresByte (s.regAddr r) v s t ∧ t.pc = pcAfter1 s) ∧
    (∀ r : Fin 2, Encoded (.incInd r) [0x10 + BitVec.ofNat 8 r.val] 1 ∧ ∃ t v, exec (.incInd r) s = .next t ∧
      v.toNat = ((s.atInd r).toNat + 1) % 256 ∧ StoresByte (s.ind r) v s t ∧ t.pc = pcAfter1 s)

/-- R185 to R188: the four rotates, bit by bit. -/
def Obligations.RotateResults : Prop :=
  ∀ s : State,
    (Encoded .rlA [0xE7] 1 ∧ ∃ t, exec .rlA s = .next t ∧
      (∀ k : Fin 8, t.acc.getLsbD ((k.val + 1) % 8) = s.acc.getLsbD k.val) ∧ t.pc = pcAfter1 s ∧ ChangesAccPc s t) ∧
    (Encoded .rrA [0x77] 1 ∧ ∃ t, exec .rrA s = .next t ∧
      (∀ k : Fin 8, t.acc.getLsbD k.val = s.acc.getLsbD ((k.val + 1) % 8)) ∧ t.pc = pcAfter1 s ∧ ChangesAccPc s t) ∧
    (Encoded .rlcA [0xF7] 1 ∧ ∃ t, exec .rlcA s = .next t ∧
      (∀ k : Fin 7, t.acc.getLsbD (k.val + 1) = s.acc.getLsbD k.val) ∧ t.acc.getLsbD 0 = s.cy ∧
      t.cy = s.acc.getLsbD 7 ∧ t.pc = pcAfter1 s ∧ ChangesAccCyPc s t) ∧
    (Encoded .rrcA [0x67] 1 ∧ ∃ t, exec .rrcA s = .next t ∧
      (∀ k : Fin 7, t.acc.getLsbD k.val = s.acc.getLsbD (k.val + 1)) ∧ t.acc.getLsbD 7 = s.cy ∧
      t.cy = s.acc.getLsbD 0 ∧ t.pc = pcAfter1 s ∧ ChangesAccCyPc s t)

/-- R185 to R188: eight RL or RR restore `acc`, nine RLC or RRC restore `acc` and `cy`. -/
def Obligations.RotatesAreRings : Prop :=
  ∀ s : State,
    (∃ t, execTimes .rlA 8 s = .next t ∧ t.acc = s.acc ∧ t.cy = s.cy) ∧
    (∃ t, execTimes .rrA 8 s = .next t ∧ t.acc = s.acc ∧ t.cy = s.cy) ∧
    (∃ t, execTimes .rlcA 9 s = .next t ∧ t.acc = s.acc ∧ t.cy = s.cy) ∧
    (∃ t, execTimes .rrcA 9 s = .next t ∧ t.acc = s.acc ∧ t.cy = s.cy)

/-! ## Jumps, calls and returns -/

/-- R200 to R207: the jumps on the accumulator and on flags. -/
def Obligations.AccumulatorAndFlagJumps : Prop :=
  ∀ (s : State) (a : Byte),
    (∀ b : Fin 8, Encoded (.jbb b a) [0x12 + 0x20 * BitVec.ofNat 8 b.val, a] 2 ∧ ∃ t, exec (.jbb b a) s = .next t ∧
      JumpsTo s t (s.acc.getLsbD b.val) a ∧ ChangesPc s t) ∧
    (Encoded (.jc a) [0xF6, a] 2 ∧ ∃ t, exec (.jc a) s = .next t ∧ JumpsTo s t s.cy a ∧ ChangesPc s t) ∧
    (Encoded (.jnc a) [0xE6, a] 2 ∧ ∃ t, exec (.jnc a) s = .next t ∧ JumpsTo s t (!s.cy) a ∧ ChangesPc s t) ∧
    (Encoded (.jz a) [0xC6, a] 2 ∧ ∃ t, exec (.jz a) s = .next t ∧
      JumpsTo s t (decide (s.acc.toNat = 0)) a ∧ ChangesPc s t) ∧
    (Encoded (.jnz a) [0x96, a] 2 ∧ ∃ t, exec (.jnz a) s = .next t ∧
      JumpsTo s t (decide (s.acc.toNat ≠ 0)) a ∧ ChangesPc s t) ∧
    (Encoded (.jf0 a) [0xB6, a] 2 ∧ ∃ t, exec (.jf0 a) s = .next t ∧ JumpsTo s t s.f0 a ∧ ChangesPc s t) ∧
    (Encoded (.jf1 a) [0x76, a] 2 ∧ ∃ t, exec (.jf1 a) s = .next t ∧ JumpsTo s t s.f1 a ∧ ChangesPc s t)

/-- R208 to R213: the jumps on the inputs, sampled at `cycles`, and on the timer flag, which the test clears. -/
def Obligations.InputAndTimerFlagJumps : Prop :=
  ∀ (s : State) (a : Byte),
    (Encoded (.jt0 a) [0x36, a] 2 ∧ ∃ t, exec (.jt0 a) s = .next t ∧ JumpsTo s t s.t0In a ∧ ChangesPc s t) ∧
    (Encoded (.jnt0 a) [0x26, a] 2 ∧ ∃ t, exec (.jnt0 a) s = .next t ∧ JumpsTo s t (!s.t0In) a ∧ ChangesPc s t) ∧
    (Encoded (.jt1 a) [0x56, a] 2 ∧ ∃ t, exec (.jt1 a) s = .next t ∧ JumpsTo s t s.t1In a ∧ ChangesPc s t) ∧
    (Encoded (.jnt1 a) [0x46, a] 2 ∧ ∃ t, exec (.jnt1 a) s = .next t ∧ JumpsTo s t (!s.t1In) a ∧ ChangesPc s t) ∧
    (Encoded (.jni a) [0x86, a] 2 ∧ ∃ t, exec (.jni a) s = .next t ∧ JumpsTo s t s.intIn a ∧
      t.irqLastPollResult = (s.irqLastPollResult || !s.intIn) ∧
      t = { s with irqLastPollResult := t.irqLastPollResult, pc := t.pc } ∧ SameMemory s t) ∧
    (Encoded (.jtf a) [0x16, a] 2 ∧ ∃ t, exec (.jtf a) s = .next t ∧ JumpsTo s t s.timerFlag a ∧
      t = { s with timerFlag := false, pc := t.pc } ∧ SameMemory s t)

/-- R214: DJNZ decrements the register modulo 256, stores it, and jumps if the new value is not zero. -/
def Obligations.DjnzResult : Prop :=
  ∀ (s : State) (r : Fin 8) (a : Byte), Encoded (.djnzR r a) [0xE8 + BitVec.ofNat 8 r.val, a] 2 ∧
    ∃ t v, exec (.djnzR r a) s = .next t ∧ v.toNat = ((s.reg r).toNat + 255) % 256 ∧
      StoresByte (s.regAddr r) v s t ∧ JumpsTo s t (decide (v.toNat ≠ 0)) a

/-- R215, R216: JMP goes to `a11 ++ a_hi ++ addr8`; JMPP to the byte that the table in the page after the opcode holds,
in that page. -/
def Obligations.UnconditionalJumps : Prop :=
  ∀ s : State,
    (∀ (h : BitVec 3) (a : Byte), Encoded (.jmp h a) [0x04 + 0x20 * h.setWidth 8, a] 2 ∧
      ∃ t, exec (.jmp h a) s = .next t ∧
        t.pc.toNat = (2048 * s.a11.toNat + 256 * h.toNat + a.toNat) % pcLimit s ∧ ChangesPc s t) ∧
    (Encoded .jmppAtA [0xB3] 2 ∧ ∃ t, exec .jmppAtA s = .next t ∧
      t.pc.toNat = ((pcAfter1 s).toNat / 256 * 256 +
        (s.prog.read ((pcAfter1 s).toNat / 256 * 256 + s.acc.toNat)).toNat) % pcLimit s ∧ ChangesPc s t)

/-- R34, R67, R217: CALL pushes the address after its operand byte and the four flags on the entry `sp` names, and goes
to `a11 ++ a_hi ++ addr8`. -/
def Obligations.CallPushesReturnEntry : Prop :=
  ∀ (s : State) (h : BitVec 3) (a : Byte), Encoded (.call h a) [0x14 + 0x20 * h.setWidth 8, a] 2 ∧
    ∃ t, exec (.call h a) s = .next t ∧
      t.pc.toNat = (2048 * s.a11.toNat + 256 * h.toNat + a.toNat) % pcLimit s ∧
      EntryHolds t s.sp (pcAfter2 s) s ∧ t.sp.toNat = (s.sp.toNat + 1) % 8 ∧
      t = { s with pc := t.pc, sp := t.sp, data := t.data } ∧ StoresOnly (entryBytes s.sp) s t

/-- R35, R218: RET decrements `sp` modulo 8 and loads `pc` from the entry it then names; the saved flags are discarded. -/
def Obligations.RetPopsAddressOnly : Prop :=
  ∀ s : State, Encoded .ret [0x83] 2 ∧ ∃ t, exec .ret s = .next t ∧
    t.sp.toNat = (s.sp.toNat + 7) % 8 ∧
    t.pc.toNat = ((s.readData (8 + 2 * t.sp.toNat)).toNat + 256 * ((s.readData (9 + 2 * t.sp.toNat)).toNat % 16)) %
      pcLimit s ∧
    t = { s with pc := t.pc, sp := t.sp } ∧ SameMemory s t

/-- R35, R219: RETR restores the four flags and all 12 bits of `pc` from the entry, the bank latch from its shadow, and
leaves no interrupt in progress. -/
def Obligations.RetrRestoresEntry : Prop :=
  ∀ s : State, Encoded .retr [0x93] 2 ∧ ∃ t, exec .retr s = .next t ∧
    t.sp.toNat = (s.sp.toNat + 7) % 8 ∧
    t.pc.toNat = (s.readData (8 + 2 * t.sp.toNat)).toNat + 256 * ((s.readData (9 + 2 * t.sp.toNat)).toNat % 16) ∧
    flagsNumber t = (s.readData (9 + 2 * t.sp.toNat)).toNat / 16 ∧
    t.a11 = s.a11Shadow ∧ t.irqInProgress = .idle ∧
    t = { s with
      pc := t.pc, sp := t.sp, cy := t.cy, ac := t.ac, f0 := t.f0, bs := t.bs, a11 := t.a11,
      irqInProgress := .idle } ∧ SameMemory s t

/-- R217, R218: after a CALL, a RET from any state outside a handler with the same `sp` and the same stack entry returns
to the address after the CALL, in the caller's bank whatever `a11` is by then. -/
def Obligations.RetAfterCallReturns : Prop :=
  ∀ (s t u : State) (h : BitVec 3) (a : Byte), exec (.call h a) s = .next t →
    u.sp = t.sp → (∀ x ∈ entryBytes s.sp, u.readData x = t.readData x) → u.irqInProgress = .idle →
    ∃ v, exec .ret u = .next v ∧ v.pc = pcAfter2 s ∧ v.sp = s.sp

/-- R33: `n` pushes add `n` to the stack pointer modulo 8, so that eight bring it back and a ninth overwrites the entry of
the first; no push stores outside data bytes 8 to 23. -/
def Obligations.StackStaysInItsBytes : Prop :=
  ∀ s : State, (pushes 8 s).sp = s.sp ∧ (∀ n : Nat, (pushes n s).sp.toNat = (s.sp.toNat + n) % 8) ∧
    ∀ (n a : Nat), a < 8 ∨ 23 < a → (pushes n s).readData a = s.readData a

/-! ## Flags, banks, status word, enables, NOP and the illegal operation -/

/-- R230 to R235: the flag instructions; each writes its flag and `pc` only. -/
def Obligations.FlagInstructions : Prop :=
  ∀ s : State,
    (Encoded .clrC [0x97] 1 ∧ exec .clrC s = .next { s with pc := pcAfter1 s, cy := false }) ∧
    (Encoded .cplC [0xA7] 1 ∧ exec .cplC s = .next { s with pc := pcAfter1 s, cy := !s.cy }) ∧
    (Encoded .clrF0 [0x85] 1 ∧ exec .clrF0 s = .next { s with pc := pcAfter1 s, f0 := false }) ∧
    (Encoded .cplF0 [0x95] 1 ∧ exec .cplF0 s = .next { s with pc := pcAfter1 s, f0 := !s.f0 }) ∧
    (Encoded .clrF1 [0xA5] 1 ∧ exec .clrF1 s = .next { s with pc := pcAfter1 s, f1 := false }) ∧
    (Encoded .cplF1 [0xB5] 1 ∧ exec .cplF1 s = .next { s with pc := pcAfter1 s, f1 := !s.f1 })

/-- R236, R237: the register-bank selects change `bs` and `pc` only; afterwards `R[r]` is data byte `r` or `24 + r`. -/
def Obligations.RegisterBankSelect : Prop :=
  ∀ s : State,
    (Encoded .selRB0 [0xC5] 1 ∧ ∃ t, exec .selRB0 s = .next t ∧ t = { s with pc := pcAfter1 s, bs := false } ∧
      (∀ r : Fin 8, t.reg r = s.readData r.val) ∧ SameMemory s t) ∧
    (Encoded .selRB1 [0xD5] 1 ∧ ∃ t, exec .selRB1 s = .next t ∧ t = { s with pc := pcAfter1 s, bs := true } ∧
      (∀ r : Fin 8, t.reg r = s.readData (24 + r.val)) ∧ SameMemory s t)

/-- R238, R239: the program-bank selects write the shadow, and the latch too unless an interrupt is in progress. -/
def Obligations.ProgramBankSelect : Prop :=
  ∀ s : State,
    (Encoded .selMB0 [0xE5] 1 ∧ exec .selMB0 s = .next { s with
      pc := pcAfter1 s, a11Shadow := false, a11 := if s.irqInProgress = .idle then false else s.a11 }) ∧
    (Encoded .selMB1 [0xF5] 1 ∧ exec .selMB1 s = .next { s with
      pc := pcAfter1 s, a11Shadow := true, a11 := if s.irqInProgress = .idle then true else s.a11 })

/-- R28, R29, R240, R241: the status word is read with bit 3 = 1 and written without it. -/
def Obligations.StatusWordMoves : Prop :=
  ∀ s : State,
    (Encoded .movAPsw [0xC7] 1 ∧ ∃ t, exec .movAPsw s = .next t ∧
      t.acc.toNat = 16 * flagsNumber s + 8 + s.sp.toNat ∧ t.pc = pcAfter1 s ∧ ChangesAccPc s t) ∧
    (Encoded .movPswA [0xD7] 1 ∧ ∃ t, exec .movPswA s = .next t ∧
      flagsNumber t = s.acc.toNat / 16 ∧ t.sp.toNat = s.acc.toNat % 8 ∧ t.pc = pcAfter1 s ∧
      t = { s with pc := t.pc, cy := t.cy, ac := t.ac, f0 := t.f0, bs := t.bs, sp := t.sp } ∧ SameMemory s t)

/-- R240, R241: MOV PSW,A and then MOV A,PSW gives the written byte with bit 3 set. -/
def Obligations.StatusWordReadsBack : Prop :=
  ∀ s : State, ∃ t u, exec .movPswA s = .next t ∧ exec .movAPsw t = .next u ∧ u.acc = s.acc ||| 0x08

/-- R242 to R245: the enables; DIS TCNTI also discards a pending timer request. -/
def Obligations.InterruptEnables : Prop :=
  ∀ s : State,
    (Encoded .enI [0x05] 1 ∧ exec .enI s = .next { s with pc := pcAfter1 s, xirqEnabled := true }) ∧
    (Encoded .disI [0x15] 1 ∧ exec .disI s = .next { s with pc := pcAfter1 s, xirqEnabled := false }) ∧
    (Encoded .enTcnti [0x25] 1 ∧ exec .enTcnti s = .next { s with pc := pcAfter1 s, tirqEnabled := true }) ∧
    (Encoded .disTcnti [0x35] 1 ∧
      exec .disTcnti s = .next { s with pc := pcAfter1 s, tirqEnabled := false, timerOverflow := false })

/-- R104, R246, R247: NOP advances `pc`; each of the 26 illegal opcodes advances `pc` and emits `Diag(op, a0)`. -/
def Obligations.NopAndIllegalResults : Prop :=
  ∀ s : State,
    (Encoded .nop [0x00] 1 ∧ exec .nop s = .next { s with pc := pcAfter1 s }) ∧
    ∀ p ∈ illegalOpcodes, Encoded p.2 [p.1] 1 ∧
      exec p.2 s = .next { s with pc := pcAfter1 s, trace := s.trace ++ [.diag p.1 s.pc] }

/-- R78, R246: a machine created from all-zero images is the model's reset state (log entries 1 and 2: bytes not listed
read 0), and one step of it is a NOP. -/
def Obligations.FirstStepOfZeroRom : Prop :=
  ∃ s, create (List.replicate 4096 0x00) (List.replicate 128 0x00) = .created s ∧ s = State.reset ∧
    step s = .next { s with pc := 0x001, cycles := 1 }

/-! ## Timer, ports and the unsupported instructions -/

/-- R260 to R264: the timer instructions' own effects. -/
def Obligations.TimerInstructions : Prop :=
  ∀ s : State,
    (Encoded .strtT [0x55] 1 ∧ exec .strtT s = .next { s with pc := pcAfter1 s, mode := .timer, prescaler := 0 }) ∧
    (Encoded .strtCnt [0x45] 1 ∧
      (s.mode = .counter → exec .strtCnt s = .next { s with pc := pcAfter1 s }) ∧
      (s.mode ≠ .counter → ∃ t, exec .strtCnt s = .next t ∧ t.t1History.toNat = s.t1In.toNat ∧
        t = { s with pc := pcAfter1 s, mode := .counter, t1History := t.t1History })) ∧
    (Encoded .stopTcnt [0x65] 1 ∧ exec .stopTcnt s = .next { s with pc := pcAfter1 s, mode := .off }) ∧
    (Encoded .movAT [0x42] 1 ∧ exec .movAT s = .next { s with pc := pcAfter1 s, acc := s.timerCounter }) ∧
    (Encoded .movTA [0x62] 1 ∧ exec .movTA s = .next { s with pc := pcAfter1 s, timerCounter := s.acc })

/-- R265 to R268: the port instructions; every write emits its event. -/
def Obligations.PortInstructions : Prop :=
  ∀ s : State,
    (Encoded .inAP1 [0x09] 2 ∧ exec .inAP1 s = .next { s with pc := pcAfter1 s, acc := s.portIn .p1 &&& s.p1 }) ∧
    (Encoded .inAP2 [0x0A] 2 ∧ exec .inAP2 s = .next { s with pc := pcAfter1 s, acc := s.portIn .p2 &&& s.p2 }) ∧
    (Encoded .outlP1A [0x39] 2 ∧ exec .outlP1A s = .next { s with
      pc := pcAfter1 s, p1 := s.acc, trace := s.trace ++ [.portOut .p1 s.acc] }) ∧
    (Encoded .outlP2A [0x3A] 2 ∧ exec .outlP2A s = .next { s with
      pc := pcAfter1 s, p2 := s.acc, trace := s.trace ++ [.portOut .p2 s.acc] }) ∧
    ∀ d : Byte,
      (Encoded (.anlP1Imm d) [0x99, d] 2 ∧ exec (.anlP1Imm d) s = .next { s with
        pc := pcAfter2 s, p1 := s.p1 &&& d, trace := s.trace ++ [.portOut .p1 (s.p1 &&& d)] }) ∧
      (Encoded (.anlP2Imm d) [0x9A, d] 2 ∧ exec (.anlP2Imm d) s = .next { s with
        pc := pcAfter2 s, p2 := s.p2 &&& d, trace := s.trace ++ [.portOut .p2 (s.p2 &&& d)] }) ∧
      (Encoded (.orlP1Imm d) [0x89, d] 2 ∧ exec (.orlP1Imm d) s = .next { s with
        pc := pcAfter2 s, p1 := s.p1 ||| d, trace := s.trace ++ [.portOut .p1 (s.p1 ||| d)] }) ∧
      (Encoded (.orlP2Imm d) [0x8A, d] 2 ∧ exec (.orlP2Imm d) s = .next { s with
        pc := pcAfter2 s, p2 := s.p2 ||| d, trace := s.trace ++ [.portOut .p2 (s.p2 ||| d)] })

/-- R269 to R279: each unsupported instruction is refused with its opcode byte and the address it was fetched from. -/
def Obligations.UnsupportedInstructionsRefused : Prop :=
  ∀ s : State,
    (∀ r : Fin 2, Encoded (.movxIndA r) [0x90 + BitVec.ofNat 8 r.val] 2 ∧
      exec (.movxIndA r) s = .refused (.unsupported (0x90 + BitVec.ofNat 8 r.val) s.pc)) ∧
    (Encoded .outlBusA [0x02] 2 ∧ exec .outlBusA s = .refused (.unsupported 0x02 s.pc)) ∧
    (Encoded .insABus [0x08] 2 ∧ exec .insABus s = .refused (.unsupported 0x08 s.pc)) ∧
    (∀ d : Byte, (Encoded (.orlBusImm d) [0x88, d] 2 ∧ exec (.orlBusImm d) s = .refused (.unsupported 0x88 s.pc)) ∧
      (Encoded (.anlBusImm d) [0x98, d] 2 ∧ exec (.anlBusImm d) s = .refused (.unsupported 0x98 s.pc))) ∧
    (∀ k : Fin 4,
      (Encoded (.movdAPp (4 + k.val)) [0x0C + BitVec.ofNat 8 k.val] 2 ∧
        exec (.movdAPp (4 + k.val)) s = .refused (.unsupported (0x0C + BitVec.ofNat 8 k.val) s.pc)) ∧
      (Encoded (.movdPpA (4 + k.val)) [0x3C + BitVec.ofNat 8 k.val] 2 ∧
        exec (.movdPpA (4 + k.val)) s = .refused (.unsupported (0x3C + BitVec.ofNat 8 k.val) s.pc)) ∧
      (Encoded (.orldPpA (4 + k.val)) [0x8C + BitVec.ofNat 8 k.val] 2 ∧
        exec (.orldPpA (4 + k.val)) s = .refused (.unsupported (0x8C + BitVec.ofNat 8 k.val) s.pc)) ∧
      (Encoded (.anldPpA (4 + k.val)) [0x9C + BitVec.ofNat 8 k.val] 2 ∧
        exec (.anldPpA (4 + k.val)) s = .refused (.unsupported (0x9C + BitVec.ofNat 8 k.val) s.pc))) ∧
    (Encoded .ent0Clk [0x75] 1 ∧ exec .ent0Clk s = .refused (.unsupported 0x75 s.pc))

/-! ## The timer/counter unit -/

/-- R306: one tick of the counter; a wrap sets the flag, and the sticky latch if the timer interrupt is enabled. -/
def Obligations.CounterTickEffects : Prop :=
  ∀ s : State,
    s.counterTick.timerCounter.toNat = (s.timerCounter.toNat + 1) % 256 ∧
    (s.counterTick.timerFlag = true ↔ s.timerFlag = true ∨ s.timerCounter.toNat = 255) ∧
    (s.counterTick.timerOverflow = true ↔
      s.timerOverflow = true ∨ (s.timerCounter.toNat = 255 ∧ s.tirqEnabled = true)) ∧
    s.counterTick = { s with
      timerCounter := s.counterTick.timerCounter, timerFlag := s.counterTick.timerFlag,
      timerOverflow := s.counterTick.timerOverflow }

/-- R304, R306: in timer mode any number `n` of cycles adds `floor((prescaler + n) / 32)` ticks and leaves
`(prescaler + n) mod 32`; the flag is set on a wrap, the sticky latch only if the timer interrupt is enabled; nothing but
these four and the master cycle count (R303) changes. -/
def Obligations.TimerModeAccounting : Prop :=
  ∀ (s : State) (n : Nat), s.mode = .timer →
    (s.account n).prescaler.toNat = (s.prescaler.toNat + n) % 32 ∧
    (s.account n).timerCounter.toNat = (s.timerCounter.toNat + (s.prescaler.toNat + n) / 32) % 256 ∧
    ((s.account n).timerFlag = true ↔
      s.timerFlag = true ∨ 256 ≤ s.timerCounter.toNat + (s.prescaler.toNat + n) / 32) ∧
    ((s.account n).timerOverflow = true ↔ s.timerOverflow = true ∨
      (s.tirqEnabled = true ∧ 256 ≤ s.timerCounter.toNat + (s.prescaler.toNat + n) / 32)) ∧
    (s.account n).t1History = s.t1History ∧
    s.account n = { s with
      cycles := s.cycles + n, prescaler := (s.account n).prescaler, timerCounter := (s.account n).timerCounter,
      timerFlag := (s.account n).timerFlag, timerOverflow := (s.account n).timerOverflow }

/-- R305, R306: one cycle in event-counter mode samples T1 at the new cycle count, shifts it into the history, and ticks
the counter exactly on a falling edge; it changes nothing else. `n` cycles (R303) are one after the other, and change the
master cycle count, the history, the counter and its two overflow bits only. -/
def Obligations.CounterModeCycle : Prop :=
  ∀ s : State, s.mode = .counter →
    s.oneCycle.cycles = s.cycles + 1 ∧ s.oneCycle.prescaler = s.prescaler ∧
    s.oneCycle.t1History.toNat = 2 * (s.t1History.toNat % 2) + ({ s with cycles := s.cycles + 1 }.t1In).toNat ∧
    (s.oneCycle.timerCounter.toNat =
      if s.t1History.toNat % 2 = 1 ∧ { s with cycles := s.cycles + 1 }.t1In = false
      then (s.timerCounter.toNat + 1) % 256 else s.timerCounter.toNat) ∧
    (s.oneCycle.timerFlag = true ↔ s.timerFlag = true ∨
      (s.t1History.toNat % 2 = 1 ∧ { s with cycles := s.cycles + 1 }.t1In = false ∧ s.timerCounter.toNat = 255)) ∧
    (s.oneCycle.timerOverflow = true ↔ s.timerOverflow = true ∨ (s.tirqEnabled = true ∧
      s.t1History.toNat % 2 = 1 ∧ { s with cycles := s.cycles + 1 }.t1In = false ∧ s.timerCounter.toNat = 255)) ∧
    s.oneCycle = { s with
      cycles := s.cycles + 1, t1History := s.oneCycle.t1History, timerCounter := s.oneCycle.timerCounter,
      timerFlag := s.oneCycle.timerFlag, timerOverflow := s.oneCycle.timerOverflow } ∧
    ∀ n : Nat, s.account (n + 1) = s.oneCycle.account n ∧
      s.account n = { s with
        cycles := s.cycles + n, t1History := (s.account n).t1History, timerCounter := (s.account n).timerCounter,
        timerFlag := (s.account n).timerFlag, timerOverflow := (s.account n).timerOverflow }

/-- R303: with the unit off, any number of cycles changes the master cycle count only. -/
def Obligations.StoppedUnitOnlyCountsCycles : Prop :=
  ∀ (s : State) (n : Nat), s.mode = .off → s.account n = { s with cycles := s.cycles + n }

/-- R307: a step that starts with the timer interrupt disabled and does not execute EN TCNTI never sets the sticky
latch. -/
def Obligations.MaskedOverflowIsLost : Prop :=
  ∀ s t : State, step s = .next t → s.tirqEnabled = false → s.readProg s.pc ≠ 0x25 → s.timerOverflow = false →
    t.timerOverflow = false ∧ t.tirqEnabled = false

/-! ## Interrupts -/

/-- R311, R315, R316: nothing is recognised while an interrupt is in progress; the external request goes first; each
source needs its enable. -/
def Obligations.InterruptRecognition : Prop :=
  ∀ s : State,
    (s.irqInProgress ≠ .idle → s.checkInterrupts = s) ∧
    (s.irqInProgress = .idle → s.xirqEnabled = true → s.intIn = true → s.checkInterrupts = s.enterExternal) ∧
    (s.irqInProgress = .idle → ¬(s.xirqEnabled = true ∧ s.intIn = true) →
      s.tirqEnabled = true → s.timerOverflow = true → s.checkInterrupts = s.enterTimer) ∧
    (s.irqInProgress = .idle → ¬(s.xirqEnabled = true ∧ s.intIn = true) →
      ¬(s.tirqEnabled = true ∧ s.timerOverflow = true) → s.checkInterrupts = s)

/-- R312, R314, R317: the external entry accounts 2 cycles, saves the return address (the JNI's target if the quirk
applies) and the flags, saves and clears the bank latch, and goes to 0x003; nothing else changes. -/
def Obligations.ExternalEntryEffects : Prop :=
  ∀ s : State, s.irqInProgress = .idle → s.xirqEnabled = true → s.intIn = true → ∃ t, s.checkInterrupts = t ∧
    t.pc = 0x003 ∧ t.a11 = false ∧ t.a11Shadow = s.a11 ∧ t.irqInProgress = .external ∧
    t.sp.toNat = (s.sp.toNat + 1) % 8 ∧
    EntryHolds t s.sp (if Config.jniPollQuirk = true ∧ s.irqLastPollResult = true then s.quirkReturn else s.pc) s ∧
    StoresOnly (entryBytes s.sp) s t ∧
    t = { s.account 2 with
      pc := t.pc, a11 := t.a11, a11Shadow := t.a11Shadow, irqInProgress := t.irqInProgress, sp := t.sp, data := t.data }

/-- R313, R317: the timer entry, likewise, with the sticky latch cleared, to 0x007. -/
def Obligations.TimerEntryEffects : Prop :=
  ∀ s : State, s.irqInProgress = .idle → ¬(s.xirqEnabled = true ∧ s.intIn = true) → s.tirqEnabled = true →
    s.timerOverflow = true → ∃ t, s.checkInterrupts = t ∧
    t.pc = 0x007 ∧ t.a11 = false ∧ t.a11Shadow = s.a11 ∧ t.irqInProgress = .timer ∧ t.timerOverflow = false ∧
    t.sp.toNat = (s.sp.toNat + 1) % 8 ∧ EntryHolds t s.sp s.pc s ∧ StoresOnly (entryBytes s.sp) s t ∧
    t = { s.account 2 with
      pc := t.pc, a11 := t.a11, a11Shadow := t.a11Shadow, irqInProgress := t.irqInProgress, sp := t.sp, data := t.data,
      timerOverflow := t.timerOverflow }

/-- R317, R319: whatever a handler did, if it ends with the stack pointer, the entry and the shadow that the entry left,
RETR restores `pc` (subject to R314), the four flags, the bank latch and the stack pointer of the interrupted program. -/
def Obligations.RetrAfterEntryRestores : Prop :=
  ∀ s t u : State, s.irqInProgress = .idle → s.checkInterrupts = t → t.irqInProgress ≠ .idle →
    u.sp = t.sp → u.a11Shadow = t.a11Shadow → (∀ x ∈ entryBytes s.sp, u.readData x = t.readData x) →
    ∃ v, exec .retr u = .next v ∧ v.irqInProgress = .idle ∧ v.a11 = s.a11 ∧ v.sp = s.sp ∧
      v.cy = s.cy ∧ v.ac = s.ac ∧ v.f0 = s.f0 ∧ v.bs = s.bs ∧
      v.pc = if t.irqInProgress = .external ∧ Config.jniPollQuirk = true ∧ s.irqLastPollResult = true
        then s.quirkReturn else s.pc

/-- R212, R314: after a JNI outside a handler that fell through, `QuirkReturn()` is the target it would have had. -/
def Obligations.QuirkReturnIsJniTarget : Prop :=
  ∀ (s t : State) (a : Byte), s.irqInProgress = .idle → s.intIn = false → s.readProg (pcAfter1 s) = a →
    exec (.jni a) s = .next t →
    t.irqLastPollResult = true ∧ t.quirkReturn.toNat = (pcAfter1 s).toNat / 256 * 256 + a.toNat

/-- R45, R319, R320: only RETR ends a handler. -/
def Obligations.OnlyRetrLeavesHandler : Prop :=
  ∀ s t : State, step s = .next t → s.irqInProgress ≠ .idle → s.readProg s.pc ≠ 0x93 →
    t.irqInProgress = s.irqInProgress

/-! ## What writes what -/

/-- R27, R30: an instruction that the state rules do not list as writing a flag or `sp` leaves it. -/
def Obligations.FlagWriters : Prop :=
  ∀ (i : Instr) (s t : State), exec i s = .next t →
    (writesCy i = false → t.cy = s.cy) ∧ (writesAc i = false → t.ac = s.ac) ∧ (writesF0 i = false → t.f0 = s.f0) ∧
    (writesBs i = false → t.bs = s.bs) ∧ (writesSp i = false → t.sp = s.sp) ∧
    (i ≠ .clrF1 → i ≠ .cplF1 → t.f1 = s.f1)

/-- R20, R22, R23, R36 to R47, R60, R61: an instruction that the state rules do not list as writing the accumulator, a
latch, a port, a timer field, an enable, the interrupt state or a memory leaves it. Three clauses are about fields that
are the model's own form: the trace (log entry 5), the cycle debt (log entry 9) and the pinned inputs (log entry 3). -/
def Obligations.OtherStateWriters : Prop :=
  ∀ (i : Instr) (s t : State), exec i s = .next t → (writesAcc i = false → t.acc = s.acc) ∧
    (isBankSelect i = false → i ≠ .retr → t.a11 = s.a11) ∧ (isBankSelect i = false → t.a11Shadow = s.a11Shadow) ∧
    (writesPort i = false → t.p1 = s.p1 ∧ t.p2 = s.p2) ∧ (emitsEvent i = false → t.trace = s.trace) ∧
    (i ≠ .movTA → t.timerCounter = s.timerCounter) ∧ (i ≠ .strtT → t.prescaler = s.prescaler) ∧
    (isJtf i = false → t.timerFlag = s.timerFlag) ∧ (i ≠ .disTcnti → t.timerOverflow = s.timerOverflow) ∧
    (i ≠ .strtCnt → t.t1History = s.t1History) ∧
    (i ≠ .strtT → i ≠ .strtCnt → i ≠ .stopTcnt → t.mode = s.mode) ∧
    (i ≠ .enI → i ≠ .disI → t.xirqEnabled = s.xirqEnabled) ∧
    (i ≠ .enTcnti → i ≠ .disTcnti → t.tirqEnabled = s.tirqEnabled) ∧
    (i ≠ .retr → t.irqInProgress = s.irqInProgress) ∧
    (isJni i = false → t.irqLastPollResult = s.irqLastPollResult) ∧
    (writesData i = false → ∀ a, t.readData a = s.readData a) ∧ (∀ a, t.readProg a = s.readProg a) ∧
    t.cycles = s.cycles ∧ t.cycleDebt = s.cycleDebt ∧ t.inputs = s.inputs

/-! ## Whole-machine statements -/

/-- R49 and the derived sentences of R26, R23 and R311: every step keeps the invariant of `MachineInv`. Two of its
clauses are the model's own, the canonical form of the two memories (log entries 1 and 2). -/
def Obligations.StepKeepsInvariant : Prop :=
  ∀ s t : State, MachineInv s → step s = .next t → MachineInv t

/-- R49, R50: the machine after reset has `MachineInv`, and so has any machine with it after a RESET event (log entries
1, 2 and 10: the listing of the memories and RESET as an operation are the model's). -/
def Obligations.ResetHasInvariant : Prop :=
  MachineInv State.reset ∧ ∀ s : State, MachineInv s → MachineInv s.applyReset

/-- R351: the values a RESET event leaves, in any state; it changes neither store. That RESET is an operation between steps
is the model's (log entry 10), and so is that it leaves the trace of past events (log entry 5), where R351 says only that
no event is emitted. -/
def Obligations.ResetEventValues : Prop :=
  ∀ s : State, ∃ t, s.applyReset = t ∧
    t.pc = 0x000 ∧ t.a11 = false ∧ t.a11Shadow = false ∧ t.acc = 0x00 ∧
    t.cy = false ∧ t.ac = false ∧ t.f0 = false ∧ t.bs = false ∧ t.sp = 0 ∧ t.f1 = false ∧ t.p1 = 0xFF ∧ t.p2 = 0xFF ∧
    t.timerCounter = 0 ∧ t.prescaler = 0 ∧ t.timerFlag = false ∧ t.timerOverflow = false ∧ t.t1History = 0b00 ∧
    t.mode = .off ∧ t.xirqEnabled = false ∧ t.tirqEnabled = false ∧ t.irqInProgress = .idle ∧
    t.irqLastPollResult = false ∧ t.cycles = 0 ∧ t.cycleDebt = 0 ∧ t.psw = 0x08 ∧ t.trace = s.trace ∧
    (∀ a, t.readData a = s.readData a) ∧ ∀ a, t.readProg a = s.readProg a

/-- R60, R76: no run of any length (log entry 9: `Run` is a function over the step) changes a byte of the program store. -/
def Obligations.ProgramStoreNeverChanges : Prop :=
  ∀ (n : Nat) (s t : State), run n s = .next t → ∀ a, t.readProg a = s.readProg a

/-- R370, R371 (log entry 9: `Run` is a function over the step): `Run(a); Run(b)` and `Run(a + b)` end in the same state
or in the same refusal. -/
def Obligations.RunSplits : Prop :=
  ∀ (a b : Nat) (s : State), run (a + b) s =
    match run a s with
    | .next t => run b t
    | .fault f => .fault f
    | .refused r => .refused r

/-- R370 (log entry 9: `Run` is a function over the step): the cycles executed and the debt paid are the cycles
requested and the debt left, and the debt left is at most 3 if the debt before was. -/
def Obligations.RunMeetsBudget : Prop :=
  ∀ (n : Nat) (s t : State), run n s = .next t →
    t.cycles + s.cycleDebt = s.cycles + n + t.cycleDebt ∧ (s.cycleDebt ≤ 3 → t.cycleDebt ≤ 3)

/-- R60, R78, R350 (log entry 13: that another `RAM_INIT` length is refused is the model's): a machine is created from
exactly 4096 and 128 bytes, holds them byte for byte, has the invariant and is otherwise the machine after reset. -/
def Obligations.CreatedMachineHoldsImages : Prop :=
  (∀ rom ram : List Byte, (∃ s, create rom ram = .created s) ↔ rom.length = 4096 ∧ ram.length = 128) ∧
    ∀ (rom ram : List Byte) (s : State), create rom ram = .created s →
      (∀ a, s.readProg a = rom.getD a.toNat 0) ∧ (∀ a : Fin 128, s.readData a.val = ram.getD a.val 0) ∧ MachineInv s ∧
      s = { State.reset with prog := s.prog, data := s.data }
end

