-- ==== Sys2Proof/Laws/State.lean ====
section
/-! SUPPORT. One lemma per field per update of the state, true by `rfl`, and the named updates that are others of
them under a second name. -/

namespace Sys2Proof.Machine

variable (s : State)

/-! ## `setAcc` -/

@[simp] theorem State.setAcc_acc (v : Byte) : (s.setAcc v).acc = v := rfl
@[simp] theorem State.setAcc_pc (v : Byte) : (s.setAcc v).pc = s.pc := rfl
@[simp] theorem State.setAcc_a11 (v : Byte) : (s.setAcc v).a11 = s.a11 := rfl
@[simp] theorem State.setAcc_a11Shadow (v : Byte) : (s.setAcc v).a11Shadow = s.a11Shadow := rfl
@[simp] theorem State.setAcc_cy (v : Byte) : (s.setAcc v).cy = s.cy := rfl
@[simp] theorem State.setAcc_ac (v : Byte) : (s.setAcc v).ac = s.ac := rfl
@[simp] theorem State.setAcc_f0 (v : Byte) : (s.setAcc v).f0 = s.f0 := rfl
@[simp] theorem State.setAcc_bs (v : Byte) : (s.setAcc v).bs = s.bs := rfl
@[simp] theorem State.setAcc_sp (v : Byte) : (s.setAcc v).sp = s.sp := rfl
@[simp] theorem State.setAcc_f1 (v : Byte) : (s.setAcc v).f1 = s.f1 := rfl
@[simp] theorem State.setAcc_p1 (v : Byte) : (s.setAcc v).p1 = s.p1 := rfl
@[simp] theorem State.setAcc_p2 (v : Byte) : (s.setAcc v).p2 = s.p2 := rfl
@[simp] theorem State.setAcc_data (v : Byte) : (s.setAcc v).data = s.data := rfl
@[simp] theorem State.setAcc_prog (v : Byte) : (s.setAcc v).prog = s.prog := rfl
@[simp] theorem State.setAcc_timerCounter (v : Byte) : (s.setAcc v).timerCounter = s.timerCounter := rfl
@[simp] theorem State.setAcc_prescaler (v : Byte) : (s.setAcc v).prescaler = s.prescaler := rfl
@[simp] theorem State.setAcc_timerFlag (v : Byte) : (s.setAcc v).timerFlag = s.timerFlag := rfl
@[simp] theorem State.setAcc_timerOverflow (v : Byte) : (s.setAcc v).timerOverflow = s.timerOverflow := rfl
@[simp] theorem State.setAcc_t1History (v : Byte) : (s.setAcc v).t1History = s.t1History := rfl
@[simp] theorem State.setAcc_mode (v : Byte) : (s.setAcc v).mode = s.mode := rfl
@[simp] theorem State.setAcc_xirqEnabled (v : Byte) : (s.setAcc v).xirqEnabled = s.xirqEnabled := rfl
@[simp] theorem State.setAcc_tirqEnabled (v : Byte) : (s.setAcc v).tirqEnabled = s.tirqEnabled := rfl
@[simp] theorem State.setAcc_irqInProgress (v : Byte) : (s.setAcc v).irqInProgress = s.irqInProgress := rfl
@[simp] theorem State.setAcc_irqLastPollResult (v : Byte) :
    (s.setAcc v).irqLastPollResult = s.irqLastPollResult := rfl
@[simp] theorem State.setAcc_cycles (v : Byte) : (s.setAcc v).cycles = s.cycles := rfl
@[simp] theorem State.setAcc_cycleDebt (v : Byte) : (s.setAcc v).cycleDebt = s.cycleDebt := rfl
@[simp] theorem State.setAcc_trace (v : Byte) : (s.setAcc v).trace = s.trace := rfl
@[simp] theorem State.setAcc_inputs (v : Byte) : (s.setAcc v).inputs = s.inputs := rfl

/-! ## `setPc` -/

@[simp] theorem State.setPc_acc (v : Addr) : (s.setPc v).acc = s.acc := rfl
@[simp] theorem State.setPc_pc (v : Addr) : (s.setPc v).pc = maskPc s.irqInProgress v := rfl
@[simp] theorem State.setPc_a11 (v : Addr) : (s.setPc v).a11 = s.a11 := rfl
@[simp] theorem State.setPc_a11Shadow (v : Addr) : (s.setPc v).a11Shadow = s.a11Shadow := rfl
@[simp] theorem State.setPc_cy (v : Addr) : (s.setPc v).cy = s.cy := rfl
@[simp] theorem State.setPc_ac (v : Addr) : (s.setPc v).ac = s.ac := rfl
@[simp] theorem State.setPc_f0 (v : Addr) : (s.setPc v).f0 = s.f0 := rfl
@[simp] theorem State.setPc_bs (v : Addr) : (s.setPc v).bs = s.bs := rfl
@[simp] theorem State.setPc_sp (v : Addr) : (s.setPc v).sp = s.sp := rfl
@[simp] theorem State.setPc_f1 (v : Addr) : (s.setPc v).f1 = s.f1 := rfl
@[simp] theorem State.setPc_p1 (v : Addr) : (s.setPc v).p1 = s.p1 := rfl
@[simp] theorem State.setPc_p2 (v : Addr) : (s.setPc v).p2 = s.p2 := rfl
@[simp] theorem State.setPc_data (v : Addr) : (s.setPc v).data = s.data := rfl
@[simp] theorem State.setPc_prog (v : Addr) : (s.setPc v).prog = s.prog := rfl
@[simp] theorem State.setPc_timerCounter (v : Addr) : (s.setPc v).timerCounter = s.timerCounter := rfl
@[simp] theorem State.setPc_prescaler (v : Addr) : (s.setPc v).prescaler = s.prescaler := rfl
@[simp] theorem State.setPc_timerFlag (v : Addr) : (s.setPc v).timerFlag = s.timerFlag := rfl
@[simp] theorem State.setPc_timerOverflow (v : Addr) : (s.setPc v).timerOverflow = s.timerOverflow := rfl
@[simp] theorem State.setPc_t1History (v : Addr) : (s.setPc v).t1History = s.t1History := rfl
@[simp] theorem State.setPc_mode (v : Addr) : (s.setPc v).mode = s.mode := rfl
@[simp] theorem State.setPc_xirqEnabled (v : Addr) : (s.setPc v).xirqEnabled = s.xirqEnabled := rfl
@[simp] theorem State.setPc_tirqEnabled (v : Addr) : (s.setPc v).tirqEnabled = s.tirqEnabled := rfl
@[simp] theorem State.setPc_irqInProgress (v : Addr) : (s.setPc v).irqInProgress = s.irqInProgress := rfl
@[simp] theorem State.setPc_irqLastPollResult (v : Addr) : (s.setPc v).irqLastPollResult = s.irqLastPollResult := rfl
@[simp] theorem State.setPc_cycles (v : Addr) : (s.setPc v).cycles = s.cycles := rfl
@[simp] theorem State.setPc_cycleDebt (v : Addr) : (s.setPc v).cycleDebt = s.cycleDebt := rfl
@[simp] theorem State.setPc_trace (v : Addr) : (s.setPc v).trace = s.trace := rfl
@[simp] theorem State.setPc_inputs (v : Addr) : (s.setPc v).inputs = s.inputs := rfl

/-! ## `advance` -/

@[simp] theorem State.advance_acc : s.advance.acc = s.acc := rfl
@[simp] theorem State.advance_pc : s.advance.pc = s.incPc s.pc := rfl
@[simp] theorem State.advance_a11 : s.advance.a11 = s.a11 := rfl
@[simp] theorem State.advance_a11Shadow : s.advance.a11Shadow = s.a11Shadow := rfl
@[simp] theorem State.advance_cy : s.advance.cy = s.cy := rfl
@[simp] theorem State.advance_ac : s.advance.ac = s.ac := rfl
@[simp] theorem State.advance_f0 : s.advance.f0 = s.f0 := rfl
@[simp] theorem State.advance_bs : s.advance.bs = s.bs := rfl
@[simp] theorem State.advance_sp : s.advance.sp = s.sp := rfl
@[simp] theorem State.advance_f1 : s.advance.f1 = s.f1 := rfl
@[simp] theorem State.advance_p1 : s.advance.p1 = s.p1 := rfl
@[simp] theorem State.advance_p2 : s.advance.p2 = s.p2 := rfl
@[simp] theorem State.advance_data : s.advance.data = s.data := rfl
@[simp] theorem State.advance_prog : s.advance.prog = s.prog := rfl
@[simp] theorem State.advance_timerCounter : s.advance.timerCounter = s.timerCounter := rfl
@[simp] theorem State.advance_prescaler : s.advance.prescaler = s.prescaler := rfl
@[simp] theorem State.advance_timerFlag : s.advance.timerFlag = s.timerFlag := rfl
@[simp] theorem State.advance_timerOverflow : s.advance.timerOverflow = s.timerOverflow := rfl
@[simp] theorem State.advance_t1History : s.advance.t1History = s.t1History := rfl
@[simp] theorem State.advance_mode : s.advance.mode = s.mode := rfl
@[simp] theorem State.advance_xirqEnabled : s.advance.xirqEnabled = s.xirqEnabled := rfl
@[simp] theorem State.advance_tirqEnabled : s.advance.tirqEnabled = s.tirqEnabled := rfl
@[simp] theorem State.advance_irqInProgress : s.advance.irqInProgress = s.irqInProgress := rfl
@[simp] theorem State.advance_irqLastPollResult : s.advance.irqLastPollResult = s.irqLastPollResult := rfl
@[simp] theorem State.advance_cycles : s.advance.cycles = s.cycles := rfl
@[simp] theorem State.advance_cycleDebt : s.advance.cycleDebt = s.cycleDebt := rfl
@[simp] theorem State.advance_trace : s.advance.trace = s.trace := rfl
@[simp] theorem State.advance_inputs : s.advance.inputs = s.inputs := rfl

/-! ## `writeData` -/

@[simp] theorem State.writeData_acc (a : Nat) (v : Byte) : (s.writeData a v).acc = s.acc := rfl
@[simp] theorem State.writeData_pc (a : Nat) (v : Byte) : (s.writeData a v).pc = s.pc := rfl
@[simp] theorem State.writeData_a11 (a : Nat) (v : Byte) : (s.writeData a v).a11 = s.a11 := rfl
@[simp] theorem State.writeData_a11Shadow (a : Nat) (v : Byte) : (s.writeData a v).a11Shadow = s.a11Shadow := rfl
@[simp] theorem State.writeData_cy (a : Nat) (v : Byte) : (s.writeData a v).cy = s.cy := rfl
@[simp] theorem State.writeData_ac (a : Nat) (v : Byte) : (s.writeData a v).ac = s.ac := rfl
@[simp] theorem State.writeData_f0 (a : Nat) (v : Byte) : (s.writeData a v).f0 = s.f0 := rfl
@[simp] theorem State.writeData_bs (a : Nat) (v : Byte) : (s.writeData a v).bs = s.bs := rfl
@[simp] theorem State.writeData_sp (a : Nat) (v : Byte) : (s.writeData a v).sp = s.sp := rfl
@[simp] theorem State.writeData_f1 (a : Nat) (v : Byte) : (s.writeData a v).f1 = s.f1 := rfl
@[simp] theorem State.writeData_p1 (a : Nat) (v : Byte) : (s.writeData a v).p1 = s.p1 := rfl
@[simp] theorem State.writeData_p2 (a : Nat) (v : Byte) : (s.writeData a v).p2 = s.p2 := rfl
@[simp] theorem State.writeData_data (a : Nat) (v : Byte) : (s.writeData a v).data = s.data.write a v := rfl
@[simp] theorem State.writeData_prog (a : Nat) (v : Byte) : (s.writeData a v).prog = s.prog := rfl
@[simp] theorem State.writeData_timerCounter (a : Nat) (v : Byte) :
    (s.writeData a v).timerCounter = s.timerCounter := rfl
@[simp] theorem State.writeData_prescaler (a : Nat) (v : Byte) : (s.writeData a v).prescaler = s.prescaler := rfl
@[simp] theorem State.writeData_timerFlag (a : Nat) (v : Byte) : (s.writeData a v).timerFlag = s.timerFlag := rfl
@[simp] theorem State.writeData_timerOverflow (a : Nat) (v : Byte) :
    (s.writeData a v).timerOverflow = s.timerOverflow := rfl
@[simp] theorem State.writeData_t1History (a : Nat) (v : Byte) : (s.writeData a v).t1History = s.t1History := rfl
@[simp] theorem State.writeData_mode (a : Nat) (v : Byte) : (s.writeData a v).mode = s.mode := rfl
@[simp] theorem State.writeData_xirqEnabled (a : Nat) (v : Byte) :
    (s.writeData a v).xirqEnabled = s.xirqEnabled := rfl
@[simp] theorem State.writeData_tirqEnabled (a : Nat) (v : Byte) :
    (s.writeData a v).tirqEnabled = s.tirqEnabled := rfl
@[simp] theorem State.writeData_irqInProgress (a : Nat) (v : Byte) :
    (s.writeData a v).irqInProgress = s.irqInProgress := rfl
@[simp] theorem State.writeData_irqLastPollResult (a : Nat) (v : Byte) :
    (s.writeData a v).irqLastPollResult = s.irqLastPollResult := rfl
@[simp] theorem State.writeData_cycles (a : Nat) (v : Byte) : (s.writeData a v).cycles = s.cycles := rfl
@[simp] theorem State.writeData_cycleDebt (a : Nat) (v : Byte) : (s.writeData a v).cycleDebt = s.cycleDebt := rfl
@[simp] theorem State.writeData_trace (a : Nat) (v : Byte) : (s.writeData a v).trace = s.trace := rfl
@[simp] theorem State.writeData_inputs (a : Nat) (v : Byte) : (s.writeData a v).inputs = s.inputs := rfl

/-! ## `addCore` -/

@[simp] theorem State.addCore_acc (b : Byte) (cin : Bool) :
    (s.addCore b cin).acc = BitVec.ofNat 8 (addSum s.acc b cin) := rfl
@[simp] theorem State.addCore_pc (b : Byte) (cin : Bool) : (s.addCore b cin).pc = s.pc := rfl
@[simp] theorem State.addCore_a11 (b : Byte) (cin : Bool) : (s.addCore b cin).a11 = s.a11 := rfl
@[simp] theorem State.addCore_a11Shadow (b : Byte) (cin : Bool) : (s.addCore b cin).a11Shadow = s.a11Shadow := rfl
@[simp] theorem State.addCore_cy (b : Byte) (cin : Bool) :
    (s.addCore b cin).cy = decide (addSum s.acc b cin > 255) := rfl
@[simp] theorem State.addCore_ac (b : Byte) (cin : Bool) :
    (s.addCore b cin).ac = decide (addNibbleSum s.acc b cin > 15) := rfl
@[simp] theorem State.addCore_f0 (b : Byte) (cin : Bool) : (s.addCore b cin).f0 = s.f0 := rfl
@[simp] theorem State.addCore_bs (b : Byte) (cin : Bool) : (s.addCore b cin).bs = s.bs := rfl
@[simp] theorem State.addCore_sp (b : Byte) (cin : Bool) : (s.addCore b cin).sp = s.sp := rfl
@[simp] theorem State.addCore_f1 (b : Byte) (cin : Bool) : (s.addCore b cin).f1 = s.f1 := rfl
@[simp] theorem State.addCore_p1 (b : Byte) (cin : Bool) : (s.addCore b cin).p1 = s.p1 := rfl
@[simp] theorem State.addCore_p2 (b : Byte) (cin : Bool) : (s.addCore b cin).p2 = s.p2 := rfl
@[simp] theorem State.addCore_data (b : Byte) (cin : Bool) : (s.addCore b cin).data = s.data := rfl
@[simp] theorem State.addCore_prog (b : Byte) (cin : Bool) : (s.addCore b cin).prog = s.prog := rfl
@[simp] theorem State.addCore_timerCounter (b : Byte) (cin : Bool) :
    (s.addCore b cin).timerCounter = s.timerCounter := rfl
@[simp] theorem State.addCore_prescaler (b : Byte) (cin : Bool) : (s.addCore b cin).prescaler = s.prescaler := rfl
@[simp] theorem State.addCore_timerFlag (b : Byte) (cin : Bool) : (s.addCore b cin).timerFlag = s.timerFlag := rfl
@[simp] theorem State.addCore_timerOverflow (b : Byte) (cin : Bool) :
    (s.addCore b cin).timerOverflow = s.timerOverflow := rfl
@[simp] theorem State.addCore_t1History (b : Byte) (cin : Bool) : (s.addCore b cin).t1History = s.t1History := rfl
@[simp] theorem State.addCore_mode (b : Byte) (cin : Bool) : (s.addCore b cin).mode = s.mode := rfl
@[simp] theorem State.addCore_xirqEnabled (b : Byte) (cin : Bool) :
    (s.addCore b cin).xirqEnabled = s.xirqEnabled := rfl
@[simp] theorem State.addCore_tirqEnabled (b : Byte) (cin : Bool) :
    (s.addCore b cin).tirqEnabled = s.tirqEnabled := rfl
@[simp] theorem State.addCore_irqInProgress (b : Byte) (cin : Bool) :
    (s.addCore b cin).irqInProgress = s.irqInProgress := rfl
@[simp] theorem State.addCore_irqLastPollResult (b : Byte) (cin : Bool) :
    (s.addCore b cin).irqLastPollResult = s.irqLastPollResult := rfl
@[simp] theorem State.addCore_cycles (b : Byte) (cin : Bool) : (s.addCore b cin).cycles = s.cycles := rfl
@[simp] theorem State.addCore_cycleDebt (b : Byte) (cin : Bool) : (s.addCore b cin).cycleDebt = s.cycleDebt := rfl
@[simp] theorem State.addCore_trace (b : Byte) (cin : Bool) : (s.addCore b cin).trace = s.trace := rfl
@[simp] theorem State.addCore_inputs (b : Byte) (cin : Bool) : (s.addCore b cin).inputs = s.inputs := rfl

/-! ## `decimalAdjust` -/

@[simp] theorem State.decimalAdjust_acc :
    s.decimalAdjust.acc = if daHigh s.acc s.cy s.ac then daAccLow s.acc s.ac + 0x60 else daAccLow s.acc s.ac := rfl
@[simp] theorem State.decimalAdjust_pc : s.decimalAdjust.pc = s.pc := rfl
@[simp] theorem State.decimalAdjust_a11 : s.decimalAdjust.a11 = s.a11 := rfl
@[simp] theorem State.decimalAdjust_a11Shadow : s.decimalAdjust.a11Shadow = s.a11Shadow := rfl
@[simp] theorem State.decimalAdjust_cy :
    s.decimalAdjust.cy = (daCyLow s.acc s.cy s.ac || daHigh s.acc s.cy s.ac) := rfl
@[simp] theorem State.decimalAdjust_ac : s.decimalAdjust.ac = s.ac := rfl
@[simp] theorem State.decimalAdjust_f0 : s.decimalAdjust.f0 = s.f0 := rfl
@[simp] theorem State.decimalAdjust_bs : s.decimalAdjust.bs = s.bs := rfl
@[simp] theorem State.decimalAdjust_sp : s.decimalAdjust.sp = s.sp := rfl
@[simp] theorem State.decimalAdjust_f1 : s.decimalAdjust.f1 = s.f1 := rfl
@[simp] theorem State.decimalAdjust_p1 : s.decimalAdjust.p1 = s.p1 := rfl
@[simp] theorem State.decimalAdjust_p2 : s.decimalAdjust.p2 = s.p2 := rfl
@[simp] theorem State.decimalAdjust_data : s.decimalAdjust.data = s.data := rfl
@[simp] theorem State.decimalAdjust_prog : s.decimalAdjust.prog = s.prog := rfl
@[simp] theorem State.decimalAdjust_timerCounter : s.decimalAdjust.timerCounter = s.timerCounter := rfl
@[simp] theorem State.decimalAdjust_prescaler : s.decimalAdjust.prescaler = s.prescaler := rfl
@[simp] theorem State.decimalAdjust_timerFlag : s.decimalAdjust.timerFlag = s.timerFlag := rfl
@[simp] theorem State.decimalAdjust_timerOverflow : s.decimalAdjust.timerOverflow = s.timerOverflow := rfl
@[simp] theorem State.decimalAdjust_t1History : s.decimalAdjust.t1History = s.t1History := rfl
@[simp] theorem State.decimalAdjust_mode : s.decimalAdjust.mode = s.mode := rfl
@[simp] theorem State.decimalAdjust_xirqEnabled : s.decimalAdjust.xirqEnabled = s.xirqEnabled := rfl
@[simp] theorem State.decimalAdjust_tirqEnabled : s.decimalAdjust.tirqEnabled = s.tirqEnabled := rfl
@[simp] theorem State.decimalAdjust_irqInProgress : s.decimalAdjust.irqInProgress = s.irqInProgress := rfl
@[simp] theorem State.decimalAdjust_irqLastPollResult : s.decimalAdjust.irqLastPollResult = s.irqLastPollResult := rfl
@[simp] theorem State.decimalAdjust_cycles : s.decimalAdjust.cycles = s.cycles := rfl
@[simp] theorem State.decimalAdjust_cycleDebt : s.decimalAdjust.cycleDebt = s.cycleDebt := rfl
@[simp] theorem State.decimalAdjust_trace : s.decimalAdjust.trace = s.trace := rfl
@[simp] theorem State.decimalAdjust_inputs : s.decimalAdjust.inputs = s.inputs := rfl

/-! ## `rotateLeftCarry` -/

@[simp] theorem State.rotateLeftCarry_acc : s.rotateLeftCarry.acc = s.acc.extractLsb' 0 7 ++ BitVec.ofBool s.cy := rfl
@[simp] theorem State.rotateLeftCarry_pc : s.rotateLeftCarry.pc = s.pc := rfl
@[simp] theorem State.rotateLeftCarry_a11 : s.rotateLeftCarry.a11 = s.a11 := rfl
@[simp] theorem State.rotateLeftCarry_a11Shadow : s.rotateLeftCarry.a11Shadow = s.a11Shadow := rfl
@[simp] theorem State.rotateLeftCarry_cy : s.rotateLeftCarry.cy = s.acc.getLsbD 7 := rfl
@[simp] theorem State.rotateLeftCarry_ac : s.rotateLeftCarry.ac = s.ac := rfl
@[simp] theorem State.rotateLeftCarry_f0 : s.rotateLeftCarry.f0 = s.f0 := rfl
@[simp] theorem State.rotateLeftCarry_bs : s.rotateLeftCarry.bs = s.bs := rfl
@[simp] theorem State.rotateLeftCarry_sp : s.rotateLeftCarry.sp = s.sp := rfl
@[simp] theorem State.rotateLeftCarry_f1 : s.rotateLeftCarry.f1 = s.f1 := rfl
@[simp] theorem State.rotateLeftCarry_p1 : s.rotateLeftCarry.p1 = s.p1 := rfl
@[simp] theorem State.rotateLeftCarry_p2 : s.rotateLeftCarry.p2 = s.p2 := rfl
@[simp] theorem State.rotateLeftCarry_data : s.rotateLeftCarry.data = s.data := rfl
@[simp] theorem State.rotateLeftCarry_prog : s.rotateLeftCarry.prog = s.prog := rfl
@[simp] theorem State.rotateLeftCarry_timerCounter : s.rotateLeftCarry.timerCounter = s.timerCounter := rfl
@[simp] theorem State.rotateLeftCarry_prescaler : s.rotateLeftCarry.prescaler = s.prescaler := rfl
@[simp] theorem State.rotateLeftCarry_timerFlag : s.rotateLeftCarry.timerFlag = s.timerFlag := rfl
@[simp] theorem State.rotateLeftCarry_timerOverflow : s.rotateLeftCarry.timerOverflow = s.timerOverflow := rfl
@[simp] theorem State.rotateLeftCarry_t1History : s.rotateLeftCarry.t1History = s.t1History := rfl
@[simp] theorem State.rotateLeftCarry_mode : s.rotateLeftCarry.mode = s.mode := rfl
@[simp] theorem State.rotateLeftCarry_xirqEnabled : s.rotateLeftCarry.xirqEnabled = s.xirqEnabled := rfl
@[simp] theorem State.rotateLeftCarry_tirqEnabled : s.rotateLeftCarry.tirqEnabled = s.tirqEnabled := rfl
@[simp] theorem State.rotateLeftCarry_irqInProgress : s.rotateLeftCarry.irqInProgress = s.irqInProgress := rfl
@[simp] theorem State.rotateLeftCarry_irqLastPollResult :
    s.rotateLeftCarry.irqLastPollResult = s.irqLastPollResult := rfl
@[simp] theorem State.rotateLeftCarry_cycles : s.rotateLeftCarry.cycles = s.cycles := rfl
@[simp] theorem State.rotateLeftCarry_cycleDebt : s.rotateLeftCarry.cycleDebt = s.cycleDebt := rfl
@[simp] theorem State.rotateLeftCarry_trace : s.rotateLeftCarry.trace = s.trace := rfl
@[simp] theorem State.rotateLeftCarry_inputs : s.rotateLeftCarry.inputs = s.inputs := rfl

/-! ## `rotateRightCarry` -/

@[simp] theorem State.rotateRightCarry_acc :
    s.rotateRightCarry.acc = BitVec.ofBool s.cy ++ s.acc.extractLsb' 1 7 := rfl
@[simp] theorem State.rotateRightCarry_pc : s.rotateRightCarry.pc = s.pc := rfl
@[simp] theorem State.rotateRightCarry_a11 : s.rotateRightCarry.a11 = s.a11 := rfl
@[simp] theorem State.rotateRightCarry_a11Shadow : s.rotateRightCarry.a11Shadow = s.a11Shadow := rfl
@[simp] theorem State.rotateRightCarry_cy : s.rotateRightCarry.cy = s.acc.getLsbD 0 := rfl
@[simp] theorem State.rotateRightCarry_ac : s.rotateRightCarry.ac = s.ac := rfl
@[simp] theorem State.rotateRightCarry_f0 : s.rotateRightCarry.f0 = s.f0 := rfl
@[simp] theorem State.rotateRightCarry_bs : s.rotateRightCarry.bs = s.bs := rfl
@[simp] theorem State.rotateRightCarry_sp : s.rotateRightCarry.sp = s.sp := rfl
@[simp] theorem State.rotateRightCarry_f1 : s.rotateRightCarry.f1 = s.f1 := rfl
@[simp] theorem State.rotateRightCarry_p1 : s.rotateRightCarry.p1 = s.p1 := rfl
@[simp] theorem State.rotateRightCarry_p2 : s.rotateRightCarry.p2 = s.p2 := rfl
@[simp] theorem State.rotateRightCarry_data : s.rotateRightCarry.data = s.data := rfl
@[simp] theorem State.rotateRightCarry_prog : s.rotateRightCarry.prog = s.prog := rfl
@[simp] theorem State.rotateRightCarry_timerCounter : s.rotateRightCarry.timerCounter = s.timerCounter := rfl
@[simp] theorem State.rotateRightCarry_prescaler : s.rotateRightCarry.prescaler = s.prescaler := rfl
@[simp] theorem State.rotateRightCarry_timerFlag : s.rotateRightCarry.timerFlag = s.timerFlag := rfl
@[simp] theorem State.rotateRightCarry_timerOverflow : s.rotateRightCarry.timerOverflow = s.timerOverflow := rfl
@[simp] theorem State.rotateRightCarry_t1History : s.rotateRightCarry.t1History = s.t1History := rfl
@[simp] theorem State.rotateRightCarry_mode : s.rotateRightCarry.mode = s.mode := rfl
@[simp] theorem State.rotateRightCarry_xirqEnabled : s.rotateRightCarry.xirqEnabled = s.xirqEnabled := rfl
@[simp] theorem State.rotateRightCarry_tirqEnabled : s.rotateRightCarry.tirqEnabled = s.tirqEnabled := rfl
@[simp] theorem State.rotateRightCarry_irqInProgress : s.rotateRightCarry.irqInProgress = s.irqInProgress := rfl
@[simp] theorem State.rotateRightCarry_irqLastPollResult :
    s.rotateRightCarry.irqLastPollResult = s.irqLastPollResult := rfl
@[simp] theorem State.rotateRightCarry_cycles : s.rotateRightCarry.cycles = s.cycles := rfl
@[simp] theorem State.rotateRightCarry_cycleDebt : s.rotateRightCarry.cycleDebt = s.cycleDebt := rfl
@[simp] theorem State.rotateRightCarry_trace : s.rotateRightCarry.trace = s.trace := rfl
@[simp] theorem State.rotateRightCarry_inputs : s.rotateRightCarry.inputs = s.inputs := rfl

/-! ## `setFlags` -/

@[simp] theorem State.setFlags_acc (v : BitVec 4) : (s.setFlags v).acc = s.acc := rfl
@[simp] theorem State.setFlags_pc (v : BitVec 4) : (s.setFlags v).pc = s.pc := rfl
@[simp] theorem State.setFlags_a11 (v : BitVec 4) : (s.setFlags v).a11 = s.a11 := rfl
@[simp] theorem State.setFlags_a11Shadow (v : BitVec 4) : (s.setFlags v).a11Shadow = s.a11Shadow := rfl
@[simp] theorem State.setFlags_cy (v : BitVec 4) : (s.setFlags v).cy = v.getLsbD 3 := rfl
@[simp] theorem State.setFlags_ac (v : BitVec 4) : (s.setFlags v).ac = v.getLsbD 2 := rfl
@[simp] theorem State.setFlags_f0 (v : BitVec 4) : (s.setFlags v).f0 = v.getLsbD 1 := rfl
@[simp] theorem State.setFlags_bs (v : BitVec 4) : (s.setFlags v).bs = v.getLsbD 0 := rfl
@[simp] theorem State.setFlags_sp (v : BitVec 4) : (s.setFlags v).sp = s.sp := rfl
@[simp] theorem State.setFlags_f1 (v : BitVec 4) : (s.setFlags v).f1 = s.f1 := rfl
@[simp] theorem State.setFlags_p1 (v : BitVec 4) : (s.setFlags v).p1 = s.p1 := rfl
@[simp] theorem State.setFlags_p2 (v : BitVec 4) : (s.setFlags v).p2 = s.p2 := rfl
@[simp] theorem State.setFlags_data (v : BitVec 4) : (s.setFlags v).data = s.data := rfl
@[simp] theorem State.setFlags_prog (v : BitVec 4) : (s.setFlags v).prog = s.prog := rfl
@[simp] theorem State.setFlags_timerCounter (v : BitVec 4) : (s.setFlags v).timerCounter = s.timerCounter := rfl
@[simp] theorem State.setFlags_prescaler (v : BitVec 4) : (s.setFlags v).prescaler = s.prescaler := rfl
@[simp] theorem State.setFlags_timerFlag (v : BitVec 4) : (s.setFlags v).timerFlag = s.timerFlag := rfl
@[simp] theorem State.setFlags_timerOverflow (v : BitVec 4) : (s.setFlags v).timerOverflow = s.timerOverflow := rfl
@[simp] theorem State.setFlags_t1History (v : BitVec 4) : (s.setFlags v).t1History = s.t1History := rfl
@[simp] theorem State.setFlags_mode (v : BitVec 4) : (s.setFlags v).mode = s.mode := rfl
@[simp] theorem State.setFlags_xirqEnabled (v : BitVec 4) : (s.setFlags v).xirqEnabled = s.xirqEnabled := rfl
@[simp] theorem State.setFlags_tirqEnabled (v : BitVec 4) : (s.setFlags v).tirqEnabled = s.tirqEnabled := rfl
@[simp] theorem State.setFlags_irqInProgress (v : BitVec 4) : (s.setFlags v).irqInProgress = s.irqInProgress := rfl
@[simp] theorem State.setFlags_irqLastPollResult (v : BitVec 4) :
    (s.setFlags v).irqLastPollResult = s.irqLastPollResult := rfl
@[simp] theorem State.setFlags_cycles (v : BitVec 4) : (s.setFlags v).cycles = s.cycles := rfl
@[simp] theorem State.setFlags_cycleDebt (v : BitVec 4) : (s.setFlags v).cycleDebt = s.cycleDebt := rfl
@[simp] theorem State.setFlags_trace (v : BitVec 4) : (s.setFlags v).trace = s.trace := rfl
@[simp] theorem State.setFlags_inputs (v : BitVec 4) : (s.setFlags v).inputs = s.inputs := rfl

/-! ## `setPsw` -/

@[simp] theorem State.setPsw_acc (v : Byte) : (s.setPsw v).acc = s.acc := rfl
@[simp] theorem State.setPsw_pc (v : Byte) : (s.setPsw v).pc = s.pc := rfl
@[simp] theorem State.setPsw_a11 (v : Byte) : (s.setPsw v).a11 = s.a11 := rfl
@[simp] theorem State.setPsw_a11Shadow (v : Byte) : (s.setPsw v).a11Shadow = s.a11Shadow := rfl
@[simp] theorem State.setPsw_cy (v : Byte) : (s.setPsw v).cy = (v.extractLsb' 4 4).getLsbD 3 := rfl
@[simp] theorem State.setPsw_ac (v : Byte) : (s.setPsw v).ac = (v.extractLsb' 4 4).getLsbD 2 := rfl
@[simp] theorem State.setPsw_f0 (v : Byte) : (s.setPsw v).f0 = (v.extractLsb' 4 4).getLsbD 1 := rfl
@[simp] theorem State.setPsw_bs (v : Byte) : (s.setPsw v).bs = (v.extractLsb' 4 4).getLsbD 0 := rfl
@[simp] theorem State.setPsw_sp (v : Byte) : (s.setPsw v).sp = v.extractLsb' 0 3 := rfl
@[simp] theorem State.setPsw_f1 (v : Byte) : (s.setPsw v).f1 = s.f1 := rfl
@[simp] theorem State.setPsw_p1 (v : Byte) : (s.setPsw v).p1 = s.p1 := rfl
@[simp] theorem State.setPsw_p2 (v : Byte) : (s.setPsw v).p2 = s.p2 := rfl
@[simp] theorem State.setPsw_data (v : Byte) : (s.setPsw v).data = s.data := rfl
@[simp] theorem State.setPsw_prog (v : Byte) : (s.setPsw v).prog = s.prog := rfl
@[simp] theorem State.setPsw_timerCounter (v : Byte) : (s.setPsw v).timerCounter = s.timerCounter := rfl
@[simp] theorem State.setPsw_prescaler (v : Byte) : (s.setPsw v).prescaler = s.prescaler := rfl
@[simp] theorem State.setPsw_timerFlag (v : Byte) : (s.setPsw v).timerFlag = s.timerFlag := rfl
@[simp] theorem State.setPsw_timerOverflow (v : Byte) : (s.setPsw v).timerOverflow = s.timerOverflow := rfl
@[simp] theorem State.setPsw_t1History (v : Byte) : (s.setPsw v).t1History = s.t1History := rfl
@[simp] theorem State.setPsw_mode (v : Byte) : (s.setPsw v).mode = s.mode := rfl
@[simp] theorem State.setPsw_xirqEnabled (v : Byte) : (s.setPsw v).xirqEnabled = s.xirqEnabled := rfl
@[simp] theorem State.setPsw_tirqEnabled (v : Byte) : (s.setPsw v).tirqEnabled = s.tirqEnabled := rfl
@[simp] theorem State.setPsw_irqInProgress (v : Byte) : (s.setPsw v).irqInProgress = s.irqInProgress := rfl
@[simp] theorem State.setPsw_irqLastPollResult (v : Byte) :
    (s.setPsw v).irqLastPollResult = s.irqLastPollResult := rfl
@[simp] theorem State.setPsw_cycles (v : Byte) : (s.setPsw v).cycles = s.cycles := rfl
@[simp] theorem State.setPsw_cycleDebt (v : Byte) : (s.setPsw v).cycleDebt = s.cycleDebt := rfl
@[simp] theorem State.setPsw_trace (v : Byte) : (s.setPsw v).trace = s.trace := rfl
@[simp] theorem State.setPsw_inputs (v : Byte) : (s.setPsw v).inputs = s.inputs := rfl

/-! ## `push` -/

@[simp] theorem State.push_acc : s.push.acc = s.acc := rfl
@[simp] theorem State.push_pc : s.push.pc = s.pc := rfl
@[simp] theorem State.push_a11 : s.push.a11 = s.a11 := rfl
@[simp] theorem State.push_a11Shadow : s.push.a11Shadow = s.a11Shadow := rfl
@[simp] theorem State.push_cy : s.push.cy = s.cy := rfl
@[simp] theorem State.push_ac : s.push.ac = s.ac := rfl
@[simp] theorem State.push_f0 : s.push.f0 = s.f0 := rfl
@[simp] theorem State.push_bs : s.push.bs = s.bs := rfl
@[simp] theorem State.push_sp : s.push.sp = s.sp + 1 := rfl
@[simp] theorem State.push_f1 : s.push.f1 = s.f1 := rfl
@[simp] theorem State.push_p1 : s.push.p1 = s.p1 := rfl
@[simp] theorem State.push_p2 : s.push.p2 = s.p2 := rfl
@[simp] theorem State.push_data :
    s.push.data = (s.data.write (stackLow s.sp) (s.pc.extractLsb' 0 8)).write (stackHigh s.sp)
      (s.flagsNibble ++ s.pc.extractLsb' 8 4) := rfl
@[simp] theorem State.push_prog : s.push.prog = s.prog := rfl
@[simp] theorem State.push_timerCounter : s.push.timerCounter = s.timerCounter := rfl
@[simp] theorem State.push_prescaler : s.push.prescaler = s.prescaler := rfl
@[simp] theorem State.push_timerFlag : s.push.timerFlag = s.timerFlag := rfl
@[simp] theorem State.push_timerOverflow : s.push.timerOverflow = s.timerOverflow := rfl
@[simp] theorem State.push_t1History : s.push.t1History = s.t1History := rfl
@[simp] theorem State.push_mode : s.push.mode = s.mode := rfl
@[simp] theorem State.push_xirqEnabled : s.push.xirqEnabled = s.xirqEnabled := rfl
@[simp] theorem State.push_tirqEnabled : s.push.tirqEnabled = s.tirqEnabled := rfl
@[simp] theorem State.push_irqInProgress : s.push.irqInProgress = s.irqInProgress := rfl
@[simp] theorem State.push_irqLastPollResult : s.push.irqLastPollResult = s.irqLastPollResult := rfl
@[simp] theorem State.push_cycles : s.push.cycles = s.cycles := rfl
@[simp] theorem State.push_cycleDebt : s.push.cycleDebt = s.cycleDebt := rfl
@[simp] theorem State.push_trace : s.push.trace = s.trace := rfl
@[simp] theorem State.push_inputs : s.push.inputs = s.inputs := rfl

/-! ## `popSp` -/

@[simp] theorem State.popSp_acc : s.popSp.acc = s.acc := rfl
@[simp] theorem State.popSp_pc : s.popSp.pc = s.pc := rfl
@[simp] theorem State.popSp_a11 : s.popSp.a11 = s.a11 := rfl
@[simp] theorem State.popSp_a11Shadow : s.popSp.a11Shadow = s.a11Shadow := rfl
@[simp] theorem State.popSp_cy : s.popSp.cy = s.cy := rfl
@[simp] theorem State.popSp_ac : s.popSp.ac = s.ac := rfl
@[simp] theorem State.popSp_f0 : s.popSp.f0 = s.f0 := rfl
@[simp] theorem State.popSp_bs : s.popSp.bs = s.bs := rfl
@[simp] theorem State.popSp_sp : s.popSp.sp = s.sp - 1 := rfl
@[simp] theorem State.popSp_f1 : s.popSp.f1 = s.f1 := rfl
@[simp] theorem State.popSp_p1 : s.popSp.p1 = s.p1 := rfl
@[simp] theorem State.popSp_p2 : s.popSp.p2 = s.p2 := rfl
@[simp] theorem State.popSp_data : s.popSp.data = s.data := rfl
@[simp] theorem State.popSp_prog : s.popSp.prog = s.prog := rfl
@[simp] theorem State.popSp_timerCounter : s.popSp.timerCounter = s.timerCounter := rfl
@[simp] theorem State.popSp_prescaler : s.popSp.prescaler = s.prescaler := rfl
@[simp] theorem State.popSp_timerFlag : s.popSp.timerFlag = s.timerFlag := rfl
@[simp] theorem State.popSp_timerOverflow : s.popSp.timerOverflow = s.timerOverflow := rfl
@[simp] theorem State.popSp_t1History : s.popSp.t1History = s.t1History := rfl
@[simp] theorem State.popSp_mode : s.popSp.mode = s.mode := rfl
@[simp] theorem State.popSp_xirqEnabled : s.popSp.xirqEnabled = s.xirqEnabled := rfl
@[simp] theorem State.popSp_tirqEnabled : s.popSp.tirqEnabled = s.tirqEnabled := rfl
@[simp] theorem State.popSp_irqInProgress : s.popSp.irqInProgress = s.irqInProgress := rfl
@[simp] theorem State.popSp_irqLastPollResult : s.popSp.irqLastPollResult = s.irqLastPollResult := rfl
@[simp] theorem State.popSp_cycles : s.popSp.cycles = s.cycles := rfl
@[simp] theorem State.popSp_cycleDebt : s.popSp.cycleDebt = s.cycleDebt := rfl
@[simp] theorem State.popSp_trace : s.popSp.trace = s.trace := rfl
@[simp] theorem State.popSp_inputs : s.popSp.inputs = s.inputs := rfl

/-! ## `emit` -/

@[simp] theorem State.emit_acc (e : Event) : (s.emit e).acc = s.acc := rfl
@[simp] theorem State.emit_pc (e : Event) : (s.emit e).pc = s.pc := rfl
@[simp] theorem State.emit_a11 (e : Event) : (s.emit e).a11 = s.a11 := rfl
@[simp] theorem State.emit_a11Shadow (e : Event) : (s.emit e).a11Shadow = s.a11Shadow := rfl
@[simp] theorem State.emit_cy (e : Event) : (s.emit e).cy = s.cy := rfl
@[simp] theorem State.emit_ac (e : Event) : (s.emit e).ac = s.ac := rfl
@[simp] theorem State.emit_f0 (e : Event) : (s.emit e).f0 = s.f0 := rfl
@[simp] theorem State.emit_bs (e : Event) : (s.emit e).bs = s.bs := rfl
@[simp] theorem State.emit_sp (e : Event) : (s.emit e).sp = s.sp := rfl
@[simp] theorem State.emit_f1 (e : Event) : (s.emit e).f1 = s.f1 := rfl
@[simp] theorem State.emit_p1 (e : Event) : (s.emit e).p1 = s.p1 := rfl
@[simp] theorem State.emit_p2 (e : Event) : (s.emit e).p2 = s.p2 := rfl
@[simp] theorem State.emit_data (e : Event) : (s.emit e).data = s.data := rfl
@[simp] theorem State.emit_prog (e : Event) : (s.emit e).prog = s.prog := rfl
@[simp] theorem State.emit_timerCounter (e : Event) : (s.emit e).timerCounter = s.timerCounter := rfl
@[simp] theorem State.emit_prescaler (e : Event) : (s.emit e).prescaler = s.prescaler := rfl
@[simp] theorem State.emit_timerFlag (e : Event) : (s.emit e).timerFlag = s.timerFlag := rfl
@[simp] theorem State.emit_timerOverflow (e : Event) : (s.emit e).timerOverflow = s.timerOverflow := rfl
@[simp] theorem State.emit_t1History (e : Event) : (s.emit e).t1History = s.t1History := rfl
@[simp] theorem State.emit_mode (e : Event) : (s.emit e).mode = s.mode := rfl
@[simp] theorem State.emit_xirqEnabled (e : Event) : (s.emit e).xirqEnabled = s.xirqEnabled := rfl
@[simp] theorem State.emit_tirqEnabled (e : Event) : (s.emit e).tirqEnabled = s.tirqEnabled := rfl
@[simp] theorem State.emit_irqInProgress (e : Event) : (s.emit e).irqInProgress = s.irqInProgress := rfl
@[simp] theorem State.emit_irqLastPollResult (e : Event) : (s.emit e).irqLastPollResult = s.irqLastPollResult := rfl
@[simp] theorem State.emit_cycles (e : Event) : (s.emit e).cycles = s.cycles := rfl
@[simp] theorem State.emit_cycleDebt (e : Event) : (s.emit e).cycleDebt = s.cycleDebt := rfl
@[simp] theorem State.emit_trace (e : Event) : (s.emit e).trace = s.trace ++ [e] := rfl
@[simp] theorem State.emit_inputs (e : Event) : (s.emit e).inputs = s.inputs := rfl

/-! ## `selectBank` -/

@[simp] theorem State.selectBank_acc (n : Bool) : (s.selectBank n).acc = s.acc := rfl
@[simp] theorem State.selectBank_pc (n : Bool) : (s.selectBank n).pc = s.pc := rfl
@[simp] theorem State.selectBank_a11 (n : Bool) :
    (s.selectBank n).a11 = if s.irqInProgress = .idle then n else s.a11 := rfl
@[simp] theorem State.selectBank_a11Shadow (n : Bool) : (s.selectBank n).a11Shadow = n := rfl
@[simp] theorem State.selectBank_cy (n : Bool) : (s.selectBank n).cy = s.cy := rfl
@[simp] theorem State.selectBank_ac (n : Bool) : (s.selectBank n).ac = s.ac := rfl
@[simp] theorem State.selectBank_f0 (n : Bool) : (s.selectBank n).f0 = s.f0 := rfl
@[simp] theorem State.selectBank_bs (n : Bool) : (s.selectBank n).bs = s.bs := rfl
@[simp] theorem State.selectBank_sp (n : Bool) : (s.selectBank n).sp = s.sp := rfl
@[simp] theorem State.selectBank_f1 (n : Bool) : (s.selectBank n).f1 = s.f1 := rfl
@[simp] theorem State.selectBank_p1 (n : Bool) : (s.selectBank n).p1 = s.p1 := rfl
@[simp] theorem State.selectBank_p2 (n : Bool) : (s.selectBank n).p2 = s.p2 := rfl
@[simp] theorem State.selectBank_data (n : Bool) : (s.selectBank n).data = s.data := rfl
@[simp] theorem State.selectBank_prog (n : Bool) : (s.selectBank n).prog = s.prog := rfl
@[simp] theorem State.selectBank_timerCounter (n : Bool) : (s.selectBank n).timerCounter = s.timerCounter := rfl
@[simp] theorem State.selectBank_prescaler (n : Bool) : (s.selectBank n).prescaler = s.prescaler := rfl
@[simp] theorem State.selectBank_timerFlag (n : Bool) : (s.selectBank n).timerFlag = s.timerFlag := rfl
@[simp] theorem State.selectBank_timerOverflow (n : Bool) : (s.selectBank n).timerOverflow = s.timerOverflow := rfl
@[simp] theorem State.selectBank_t1History (n : Bool) : (s.selectBank n).t1History = s.t1History := rfl
@[simp] theorem State.selectBank_mode (n : Bool) : (s.selectBank n).mode = s.mode := rfl
@[simp] theorem State.selectBank_xirqEnabled (n : Bool) : (s.selectBank n).xirqEnabled = s.xirqEnabled := rfl
@[simp] theorem State.selectBank_tirqEnabled (n : Bool) : (s.selectBank n).tirqEnabled = s.tirqEnabled := rfl
@[simp] theorem State.selectBank_irqInProgress (n : Bool) : (s.selectBank n).irqInProgress = s.irqInProgress := rfl
@[simp] theorem State.selectBank_irqLastPollResult (n : Bool) :
    (s.selectBank n).irqLastPollResult = s.irqLastPollResult := rfl
@[simp] theorem State.selectBank_cycles (n : Bool) : (s.selectBank n).cycles = s.cycles := rfl
@[simp] theorem State.selectBank_cycleDebt (n : Bool) : (s.selectBank n).cycleDebt = s.cycleDebt := rfl
@[simp] theorem State.selectBank_trace (n : Bool) : (s.selectBank n).trace = s.trace := rfl
@[simp] theorem State.selectBank_inputs (n : Bool) : (s.selectBank n).inputs = s.inputs := rfl

/-! ## `vectorTo` -/

@[simp] theorem State.vectorTo_acc (v : Addr) : (s.vectorTo v).acc = s.acc := rfl
@[simp] theorem State.vectorTo_pc (v : Addr) : (s.vectorTo v).pc = v := rfl
@[simp] theorem State.vectorTo_a11 (v : Addr) : (s.vectorTo v).a11 = false := rfl
@[simp] theorem State.vectorTo_a11Shadow (v : Addr) : (s.vectorTo v).a11Shadow = s.a11 := rfl
@[simp] theorem State.vectorTo_cy (v : Addr) : (s.vectorTo v).cy = s.cy := rfl
@[simp] theorem State.vectorTo_ac (v : Addr) : (s.vectorTo v).ac = s.ac := rfl
@[simp] theorem State.vectorTo_f0 (v : Addr) : (s.vectorTo v).f0 = s.f0 := rfl
@[simp] theorem State.vectorTo_bs (v : Addr) : (s.vectorTo v).bs = s.bs := rfl
@[simp] theorem State.vectorTo_sp (v : Addr) : (s.vectorTo v).sp = s.sp + 1 := rfl
@[simp] theorem State.vectorTo_f1 (v : Addr) : (s.vectorTo v).f1 = s.f1 := rfl
@[simp] theorem State.vectorTo_p1 (v : Addr) : (s.vectorTo v).p1 = s.p1 := rfl
@[simp] theorem State.vectorTo_p2 (v : Addr) : (s.vectorTo v).p2 = s.p2 := rfl
@[simp] theorem State.vectorTo_data (v : Addr) : (s.vectorTo v).data = s.push.data := rfl
@[simp] theorem State.vectorTo_prog (v : Addr) : (s.vectorTo v).prog = s.prog := rfl
@[simp] theorem State.vectorTo_timerCounter (v : Addr) : (s.vectorTo v).timerCounter = s.timerCounter := rfl
@[simp] theorem State.vectorTo_prescaler (v : Addr) : (s.vectorTo v).prescaler = s.prescaler := rfl
@[simp] theorem State.vectorTo_timerFlag (v : Addr) : (s.vectorTo v).timerFlag = s.timerFlag := rfl
@[simp] theorem State.vectorTo_timerOverflow (v : Addr) : (s.vectorTo v).timerOverflow = s.timerOverflow := rfl
@[simp] theorem State.vectorTo_t1History (v : Addr) : (s.vectorTo v).t1History = s.t1History := rfl
@[simp] theorem State.vectorTo_mode (v : Addr) : (s.vectorTo v).mode = s.mode := rfl
@[simp] theorem State.vectorTo_xirqEnabled (v : Addr) : (s.vectorTo v).xirqEnabled = s.xirqEnabled := rfl
@[simp] theorem State.vectorTo_tirqEnabled (v : Addr) : (s.vectorTo v).tirqEnabled = s.tirqEnabled := rfl
@[simp] theorem State.vectorTo_irqInProgress (v : Addr) : (s.vectorTo v).irqInProgress = s.irqInProgress := rfl
@[simp] theorem State.vectorTo_irqLastPollResult (v : Addr) :
    (s.vectorTo v).irqLastPollResult = s.irqLastPollResult := rfl
@[simp] theorem State.vectorTo_cycles (v : Addr) : (s.vectorTo v).cycles = s.cycles := rfl
@[simp] theorem State.vectorTo_cycleDebt (v : Addr) : (s.vectorTo v).cycleDebt = s.cycleDebt := rfl
@[simp] theorem State.vectorTo_trace (v : Addr) : (s.vectorTo v).trace = s.trace := rfl
@[simp] theorem State.vectorTo_inputs (v : Addr) : (s.vectorTo v).inputs = s.inputs := rfl

/-! ## `returnFromInterrupt` -/

@[simp] theorem State.returnFromInterrupt_acc : s.returnFromInterrupt.acc = s.acc := rfl
@[simp] theorem State.returnFromInterrupt_pc : s.returnFromInterrupt.pc = s.popAddr := rfl
@[simp] theorem State.returnFromInterrupt_a11 : s.returnFromInterrupt.a11 = s.a11Shadow := rfl
@[simp] theorem State.returnFromInterrupt_a11Shadow : s.returnFromInterrupt.a11Shadow = s.a11Shadow := rfl
@[simp] theorem State.returnFromInterrupt_cy : s.returnFromInterrupt.cy = s.popFlags.getLsbD 3 := rfl
@[simp] theorem State.returnFromInterrupt_ac : s.returnFromInterrupt.ac = s.popFlags.getLsbD 2 := rfl
@[simp] theorem State.returnFromInterrupt_f0 : s.returnFromInterrupt.f0 = s.popFlags.getLsbD 1 := rfl
@[simp] theorem State.returnFromInterrupt_bs : s.returnFromInterrupt.bs = s.popFlags.getLsbD 0 := rfl
@[simp] theorem State.returnFromInterrupt_sp : s.returnFromInterrupt.sp = s.sp - 1 := rfl
@[simp] theorem State.returnFromInterrupt_f1 : s.returnFromInterrupt.f1 = s.f1 := rfl
@[simp] theorem State.returnFromInterrupt_p1 : s.returnFromInterrupt.p1 = s.p1 := rfl
@[simp] theorem State.returnFromInterrupt_p2 : s.returnFromInterrupt.p2 = s.p2 := rfl
@[simp] theorem State.returnFromInterrupt_data : s.returnFromInterrupt.data = s.data := rfl
@[simp] theorem State.returnFromInterrupt_prog : s.returnFromInterrupt.prog = s.prog := rfl
@[simp] theorem State.returnFromInterrupt_timerCounter : s.returnFromInterrupt.timerCounter = s.timerCounter := rfl
@[simp] theorem State.returnFromInterrupt_prescaler : s.returnFromInterrupt.prescaler = s.prescaler := rfl
@[simp] theorem State.returnFromInterrupt_timerFlag : s.returnFromInterrupt.timerFlag = s.timerFlag := rfl
@[simp] theorem State.returnFromInterrupt_timerOverflow : s.returnFromInterrupt.timerOverflow = s.timerOverflow := rfl
@[simp] theorem State.returnFromInterrupt_t1History : s.returnFromInterrupt.t1History = s.t1History := rfl
@[simp] theorem State.returnFromInterrupt_mode : s.returnFromInterrupt.mode = s.mode := rfl
@[simp] theorem State.returnFromInterrupt_xirqEnabled : s.returnFromInterrupt.xirqEnabled = s.xirqEnabled := rfl
@[simp] theorem State.returnFromInterrupt_tirqEnabled : s.returnFromInterrupt.tirqEnabled = s.tirqEnabled := rfl
@[simp] theorem State.returnFromInterrupt_irqInProgress : s.returnFromInterrupt.irqInProgress = .idle := rfl
@[simp] theorem State.returnFromInterrupt_irqLastPollResult :
    s.returnFromInterrupt.irqLastPollResult = s.irqLastPollResult := rfl
@[simp] theorem State.returnFromInterrupt_cycles : s.returnFromInterrupt.cycles = s.cycles := rfl
@[simp] theorem State.returnFromInterrupt_cycleDebt : s.returnFromInterrupt.cycleDebt = s.cycleDebt := rfl
@[simp] theorem State.returnFromInterrupt_trace : s.returnFromInterrupt.trace = s.trace := rfl
@[simp] theorem State.returnFromInterrupt_inputs : s.returnFromInterrupt.inputs = s.inputs := rfl

/-! ## `beginStep` -/

@[simp] theorem State.beginStep_acc : s.beginStep.acc = s.acc := rfl
@[simp] theorem State.beginStep_pc : s.beginStep.pc = s.pc := rfl
@[simp] theorem State.beginStep_a11 : s.beginStep.a11 = s.a11 := rfl
@[simp] theorem State.beginStep_a11Shadow : s.beginStep.a11Shadow = s.a11Shadow := rfl
@[simp] theorem State.beginStep_cy : s.beginStep.cy = s.cy := rfl
@[simp] theorem State.beginStep_ac : s.beginStep.ac = s.ac := rfl
@[simp] theorem State.beginStep_f0 : s.beginStep.f0 = s.f0 := rfl
@[simp] theorem State.beginStep_bs : s.beginStep.bs = s.bs := rfl
@[simp] theorem State.beginStep_sp : s.beginStep.sp = s.sp := rfl
@[simp] theorem State.beginStep_f1 : s.beginStep.f1 = s.f1 := rfl
@[simp] theorem State.beginStep_p1 : s.beginStep.p1 = s.p1 := rfl
@[simp] theorem State.beginStep_p2 : s.beginStep.p2 = s.p2 := rfl
@[simp] theorem State.beginStep_data : s.beginStep.data = s.data := rfl
@[simp] theorem State.beginStep_prog : s.beginStep.prog = s.prog := rfl
@[simp] theorem State.beginStep_timerCounter : s.beginStep.timerCounter = s.timerCounter := rfl
@[simp] theorem State.beginStep_prescaler : s.beginStep.prescaler = s.prescaler := rfl
@[simp] theorem State.beginStep_timerFlag : s.beginStep.timerFlag = s.timerFlag := rfl
@[simp] theorem State.beginStep_timerOverflow : s.beginStep.timerOverflow = s.timerOverflow := rfl
@[simp] theorem State.beginStep_t1History : s.beginStep.t1History = s.t1History := rfl
@[simp] theorem State.beginStep_mode : s.beginStep.mode = s.mode := rfl
@[simp] theorem State.beginStep_xirqEnabled : s.beginStep.xirqEnabled = s.xirqEnabled := rfl
@[simp] theorem State.beginStep_tirqEnabled : s.beginStep.tirqEnabled = s.tirqEnabled := rfl
@[simp] theorem State.beginStep_irqInProgress : s.beginStep.irqInProgress = s.irqInProgress := rfl
@[simp] theorem State.beginStep_irqLastPollResult : s.beginStep.irqLastPollResult = false := rfl
@[simp] theorem State.beginStep_cycles : s.beginStep.cycles = s.cycles := rfl
@[simp] theorem State.beginStep_cycleDebt : s.beginStep.cycleDebt = s.cycleDebt := rfl
@[simp] theorem State.beginStep_trace : s.beginStep.trace = s.trace := rfl
@[simp] theorem State.beginStep_inputs : s.beginStep.inputs = s.inputs := rfl

/-! ## `loadPc` -/

@[simp] theorem State.loadPc_acc (v : Addr) : (s.loadPc v).acc = s.acc := rfl
@[simp] theorem State.loadPc_pc (v : Addr) : (s.loadPc v).pc = v := rfl
@[simp] theorem State.loadPc_a11 (v : Addr) : (s.loadPc v).a11 = s.a11 := rfl
@[simp] theorem State.loadPc_a11Shadow (v : Addr) : (s.loadPc v).a11Shadow = s.a11Shadow := rfl
@[simp] theorem State.loadPc_cy (v : Addr) : (s.loadPc v).cy = s.cy := rfl
@[simp] theorem State.loadPc_ac (v : Addr) : (s.loadPc v).ac = s.ac := rfl
@[simp] theorem State.loadPc_f0 (v : Addr) : (s.loadPc v).f0 = s.f0 := rfl
@[simp] theorem State.loadPc_bs (v : Addr) : (s.loadPc v).bs = s.bs := rfl
@[simp] theorem State.loadPc_sp (v : Addr) : (s.loadPc v).sp = s.sp := rfl
@[simp] theorem State.loadPc_f1 (v : Addr) : (s.loadPc v).f1 = s.f1 := rfl
@[simp] theorem State.loadPc_p1 (v : Addr) : (s.loadPc v).p1 = s.p1 := rfl
@[simp] theorem State.loadPc_p2 (v : Addr) : (s.loadPc v).p2 = s.p2 := rfl
@[simp] theorem State.loadPc_data (v : Addr) : (s.loadPc v).data = s.data := rfl
@[simp] theorem State.loadPc_prog (v : Addr) : (s.loadPc v).prog = s.prog := rfl
@[simp] theorem State.loadPc_timerCounter (v : Addr) : (s.loadPc v).timerCounter = s.timerCounter := rfl
@[simp] theorem State.loadPc_prescaler (v : Addr) : (s.loadPc v).prescaler = s.prescaler := rfl
@[simp] theorem State.loadPc_timerFlag (v : Addr) : (s.loadPc v).timerFlag = s.timerFlag := rfl
@[simp] theorem State.loadPc_timerOverflow (v : Addr) : (s.loadPc v).timerOverflow = s.timerOverflow := rfl
@[simp] theorem State.loadPc_t1History (v : Addr) : (s.loadPc v).t1History = s.t1History := rfl
@[simp] theorem State.loadPc_mode (v : Addr) : (s.loadPc v).mode = s.mode := rfl
@[simp] theorem State.loadPc_xirqEnabled (v : Addr) : (s.loadPc v).xirqEnabled = s.xirqEnabled := rfl
@[simp] theorem State.loadPc_tirqEnabled (v : Addr) : (s.loadPc v).tirqEnabled = s.tirqEnabled := rfl
@[simp] theorem State.loadPc_irqInProgress (v : Addr) : (s.loadPc v).irqInProgress = s.irqInProgress := rfl
@[simp] theorem State.loadPc_irqLastPollResult (v : Addr) :
    (s.loadPc v).irqLastPollResult = s.irqLastPollResult := rfl
@[simp] theorem State.loadPc_cycles (v : Addr) : (s.loadPc v).cycles = s.cycles := rfl
@[simp] theorem State.loadPc_cycleDebt (v : Addr) : (s.loadPc v).cycleDebt = s.cycleDebt := rfl
@[simp] theorem State.loadPc_trace (v : Addr) : (s.loadPc v).trace = s.trace := rfl
@[simp] theorem State.loadPc_inputs (v : Addr) : (s.loadPc v).inputs = s.inputs := rfl

/-! ## `setPrescaler` -/

@[simp] theorem State.setPrescaler_acc (v : BitVec 5) : (s.setPrescaler v).acc = s.acc := rfl
@[simp] theorem State.setPrescaler_pc (v : BitVec 5) : (s.setPrescaler v).pc = s.pc := rfl
@[simp] theorem State.setPrescaler_a11 (v : BitVec 5) : (s.setPrescaler v).a11 = s.a11 := rfl
@[simp] theorem State.setPrescaler_a11Shadow (v : BitVec 5) : (s.setPrescaler v).a11Shadow = s.a11Shadow := rfl
@[simp] theorem State.setPrescaler_cy (v : BitVec 5) : (s.setPrescaler v).cy = s.cy := rfl
@[simp] theorem State.setPrescaler_ac (v : BitVec 5) : (s.setPrescaler v).ac = s.ac := rfl
@[simp] theorem State.setPrescaler_f0 (v : BitVec 5) : (s.setPrescaler v).f0 = s.f0 := rfl
@[simp] theorem State.setPrescaler_bs (v : BitVec 5) : (s.setPrescaler v).bs = s.bs := rfl
@[simp] theorem State.setPrescaler_sp (v : BitVec 5) : (s.setPrescaler v).sp = s.sp := rfl
@[simp] theorem State.setPrescaler_f1 (v : BitVec 5) : (s.setPrescaler v).f1 = s.f1 := rfl
@[simp] theorem State.setPrescaler_p1 (v : BitVec 5) : (s.setPrescaler v).p1 = s.p1 := rfl
@[simp] theorem State.setPrescaler_p2 (v : BitVec 5) : (s.setPrescaler v).p2 = s.p2 := rfl
@[simp] theorem State.setPrescaler_data (v : BitVec 5) : (s.setPrescaler v).data = s.data := rfl
@[simp] theorem State.setPrescaler_prog (v : BitVec 5) : (s.setPrescaler v).prog = s.prog := rfl
@[simp] theorem State.setPrescaler_timerCounter (v : BitVec 5) :
    (s.setPrescaler v).timerCounter = s.timerCounter := rfl
@[simp] theorem State.setPrescaler_prescaler (v : BitVec 5) : (s.setPrescaler v).prescaler = v := rfl
@[simp] theorem State.setPrescaler_timerFlag (v : BitVec 5) : (s.setPrescaler v).timerFlag = s.timerFlag := rfl
@[simp] theorem State.setPrescaler_timerOverflow (v : BitVec 5) :
    (s.setPrescaler v).timerOverflow = s.timerOverflow := rfl
@[simp] theorem State.setPrescaler_t1History (v : BitVec 5) : (s.setPrescaler v).t1History = s.t1History := rfl
@[simp] theorem State.setPrescaler_mode (v : BitVec 5) : (s.setPrescaler v).mode = s.mode := rfl
@[simp] theorem State.setPrescaler_xirqEnabled (v : BitVec 5) : (s.setPrescaler v).xirqEnabled = s.xirqEnabled := rfl
@[simp] theorem State.setPrescaler_tirqEnabled (v : BitVec 5) : (s.setPrescaler v).tirqEnabled = s.tirqEnabled := rfl
@[simp] theorem State.setPrescaler_irqInProgress (v : BitVec 5) :
    (s.setPrescaler v).irqInProgress = s.irqInProgress := rfl
@[simp] theorem State.setPrescaler_irqLastPollResult (v : BitVec 5) :
    (s.setPrescaler v).irqLastPollResult = s.irqLastPollResult := rfl
@[simp] theorem State.setPrescaler_cycles (v : BitVec 5) : (s.setPrescaler v).cycles = s.cycles := rfl
@[simp] theorem State.setPrescaler_cycleDebt (v : BitVec 5) : (s.setPrescaler v).cycleDebt = s.cycleDebt := rfl
@[simp] theorem State.setPrescaler_trace (v : BitVec 5) : (s.setPrescaler v).trace = s.trace := rfl
@[simp] theorem State.setPrescaler_inputs (v : BitVec 5) : (s.setPrescaler v).inputs = s.inputs := rfl

/-! ## `setHistory` -/

@[simp] theorem State.setHistory_acc (h : BitVec 2) : (s.setHistory h).acc = s.acc := rfl
@[simp] theorem State.setHistory_pc (h : BitVec 2) : (s.setHistory h).pc = s.pc := rfl
@[simp] theorem State.setHistory_a11 (h : BitVec 2) : (s.setHistory h).a11 = s.a11 := rfl
@[simp] theorem State.setHistory_a11Shadow (h : BitVec 2) : (s.setHistory h).a11Shadow = s.a11Shadow := rfl
@[simp] theorem State.setHistory_cy (h : BitVec 2) : (s.setHistory h).cy = s.cy := rfl
@[simp] theorem State.setHistory_ac (h : BitVec 2) : (s.setHistory h).ac = s.ac := rfl
@[simp] theorem State.setHistory_f0 (h : BitVec 2) : (s.setHistory h).f0 = s.f0 := rfl
@[simp] theorem State.setHistory_bs (h : BitVec 2) : (s.setHistory h).bs = s.bs := rfl
@[simp] theorem State.setHistory_sp (h : BitVec 2) : (s.setHistory h).sp = s.sp := rfl
@[simp] theorem State.setHistory_f1 (h : BitVec 2) : (s.setHistory h).f1 = s.f1 := rfl
@[simp] theorem State.setHistory_p1 (h : BitVec 2) : (s.setHistory h).p1 = s.p1 := rfl
@[simp] theorem State.setHistory_p2 (h : BitVec 2) : (s.setHistory h).p2 = s.p2 := rfl
@[simp] theorem State.setHistory_data (h : BitVec 2) : (s.setHistory h).data = s.data := rfl
@[simp] theorem State.setHistory_prog (h : BitVec 2) : (s.setHistory h).prog = s.prog := rfl
@[simp] theorem State.setHistory_timerCounter (h : BitVec 2) : (s.setHistory h).timerCounter = s.timerCounter := rfl
@[simp] theorem State.setHistory_prescaler (h : BitVec 2) : (s.setHistory h).prescaler = s.prescaler := rfl
@[simp] theorem State.setHistory_timerFlag (h : BitVec 2) : (s.setHistory h).timerFlag = s.timerFlag := rfl
@[simp] theorem State.setHistory_timerOverflow (h : BitVec 2) :
    (s.setHistory h).timerOverflow = s.timerOverflow := rfl
@[simp] theorem State.setHistory_t1History (h : BitVec 2) : (s.setHistory h).t1History = h := rfl
@[simp] theorem State.setHistory_mode (h : BitVec 2) : (s.setHistory h).mode = s.mode := rfl
@[simp] theorem State.setHistory_xirqEnabled (h : BitVec 2) : (s.setHistory h).xirqEnabled = s.xirqEnabled := rfl
@[simp] theorem State.setHistory_tirqEnabled (h : BitVec 2) : (s.setHistory h).tirqEnabled = s.tirqEnabled := rfl
@[simp] theorem State.setHistory_irqInProgress (h : BitVec 2) :
    (s.setHistory h).irqInProgress = s.irqInProgress := rfl
@[simp] theorem State.setHistory_irqLastPollResult (h : BitVec 2) :
    (s.setHistory h).irqLastPollResult = s.irqLastPollResult := rfl
@[simp] theorem State.setHistory_cycles (h : BitVec 2) : (s.setHistory h).cycles = s.cycles := rfl
@[simp] theorem State.setHistory_cycleDebt (h : BitVec 2) : (s.setHistory h).cycleDebt = s.cycleDebt := rfl
@[simp] theorem State.setHistory_trace (h : BitVec 2) : (s.setHistory h).trace = s.trace := rfl
@[simp] theorem State.setHistory_inputs (h : BitVec 2) : (s.setHistory h).inputs = s.inputs := rfl

/-! ## `addCycle` -/

@[simp] theorem State.addCycle_acc : s.addCycle.acc = s.acc := rfl
@[simp] theorem State.addCycle_pc : s.addCycle.pc = s.pc := rfl
@[simp] theorem State.addCycle_a11 : s.addCycle.a11 = s.a11 := rfl
@[simp] theorem State.addCycle_a11Shadow : s.addCycle.a11Shadow = s.a11Shadow := rfl
@[simp] theorem State.addCycle_cy : s.addCycle.cy = s.cy := rfl
@[simp] theorem State.addCycle_ac : s.addCycle.ac = s.ac := rfl
@[simp] theorem State.addCycle_f0 : s.addCycle.f0 = s.f0 := rfl
@[simp] theorem State.addCycle_bs : s.addCycle.bs = s.bs := rfl
@[simp] theorem State.addCycle_sp : s.addCycle.sp = s.sp := rfl
@[simp] theorem State.addCycle_f1 : s.addCycle.f1 = s.f1 := rfl
@[simp] theorem State.addCycle_p1 : s.addCycle.p1 = s.p1 := rfl
@[simp] theorem State.addCycle_p2 : s.addCycle.p2 = s.p2 := rfl
@[simp] theorem State.addCycle_data : s.addCycle.data = s.data := rfl
@[simp] theorem State.addCycle_prog : s.addCycle.prog = s.prog := rfl
@[simp] theorem State.addCycle_timerCounter : s.addCycle.timerCounter = s.timerCounter := rfl
@[simp] theorem State.addCycle_prescaler : s.addCycle.prescaler = s.prescaler := rfl
@[simp] theorem State.addCycle_timerFlag : s.addCycle.timerFlag = s.timerFlag := rfl
@[simp] theorem State.addCycle_timerOverflow : s.addCycle.timerOverflow = s.timerOverflow := rfl
@[simp] theorem State.addCycle_t1History : s.addCycle.t1History = s.t1History := rfl
@[simp] theorem State.addCycle_mode : s.addCycle.mode = s.mode := rfl
@[simp] theorem State.addCycle_xirqEnabled : s.addCycle.xirqEnabled = s.xirqEnabled := rfl
@[simp] theorem State.addCycle_tirqEnabled : s.addCycle.tirqEnabled = s.tirqEnabled := rfl
@[simp] theorem State.addCycle_irqInProgress : s.addCycle.irqInProgress = s.irqInProgress := rfl
@[simp] theorem State.addCycle_irqLastPollResult : s.addCycle.irqLastPollResult = s.irqLastPollResult := rfl
@[simp] theorem State.addCycle_cycles : s.addCycle.cycles = s.cycles + 1 := rfl
@[simp] theorem State.addCycle_cycleDebt : s.addCycle.cycleDebt = s.cycleDebt := rfl
@[simp] theorem State.addCycle_trace : s.addCycle.trace = s.trace := rfl
@[simp] theorem State.addCycle_inputs : s.addCycle.inputs = s.inputs := rfl

/-! ## `counterTick` -/

@[simp] theorem State.counterTick_acc : s.counterTick.acc = s.acc := rfl
@[simp] theorem State.counterTick_pc : s.counterTick.pc = s.pc := rfl
@[simp] theorem State.counterTick_a11 : s.counterTick.a11 = s.a11 := rfl
@[simp] theorem State.counterTick_a11Shadow : s.counterTick.a11Shadow = s.a11Shadow := rfl
@[simp] theorem State.counterTick_cy : s.counterTick.cy = s.cy := rfl
@[simp] theorem State.counterTick_ac : s.counterTick.ac = s.ac := rfl
@[simp] theorem State.counterTick_f0 : s.counterTick.f0 = s.f0 := rfl
@[simp] theorem State.counterTick_bs : s.counterTick.bs = s.bs := rfl
@[simp] theorem State.counterTick_sp : s.counterTick.sp = s.sp := rfl
@[simp] theorem State.counterTick_f1 : s.counterTick.f1 = s.f1 := rfl
@[simp] theorem State.counterTick_p1 : s.counterTick.p1 = s.p1 := rfl
@[simp] theorem State.counterTick_p2 : s.counterTick.p2 = s.p2 := rfl
@[simp] theorem State.counterTick_data : s.counterTick.data = s.data := rfl
@[simp] theorem State.counterTick_prog : s.counterTick.prog = s.prog := rfl
@[simp] theorem State.counterTick_timerCounter : s.counterTick.timerCounter = s.timerCounter + 1 := rfl
@[simp] theorem State.counterTick_prescaler : s.counterTick.prescaler = s.prescaler := rfl
@[simp] theorem State.counterTick_timerFlag :
    s.counterTick.timerFlag = (s.timerFlag || s.timerCounter + 1 == 0) := rfl
@[simp] theorem State.counterTick_timerOverflow :
    s.counterTick.timerOverflow = (s.timerOverflow || (s.timerCounter + 1 == 0 && s.tirqEnabled)) := rfl
@[simp] theorem State.counterTick_t1History : s.counterTick.t1History = s.t1History := rfl
@[simp] theorem State.counterTick_mode : s.counterTick.mode = s.mode := rfl
@[simp] theorem State.counterTick_xirqEnabled : s.counterTick.xirqEnabled = s.xirqEnabled := rfl
@[simp] theorem State.counterTick_tirqEnabled : s.counterTick.tirqEnabled = s.tirqEnabled := rfl
@[simp] theorem State.counterTick_irqInProgress : s.counterTick.irqInProgress = s.irqInProgress := rfl
@[simp] theorem State.counterTick_irqLastPollResult : s.counterTick.irqLastPollResult = s.irqLastPollResult := rfl
@[simp] theorem State.counterTick_cycles : s.counterTick.cycles = s.cycles := rfl
@[simp] theorem State.counterTick_cycleDebt : s.counterTick.cycleDebt = s.cycleDebt := rfl
@[simp] theorem State.counterTick_trace : s.counterTick.trace = s.trace := rfl
@[simp] theorem State.counterTick_inputs : s.counterTick.inputs = s.inputs := rfl

/-! ## `setIrq` -/

@[simp] theorem State.setIrq_acc (v : IrqState) : (s.setIrq v).acc = s.acc := rfl
@[simp] theorem State.setIrq_pc (v : IrqState) : (s.setIrq v).pc = s.pc := rfl
@[simp] theorem State.setIrq_a11 (v : IrqState) : (s.setIrq v).a11 = s.a11 := rfl
@[simp] theorem State.setIrq_a11Shadow (v : IrqState) : (s.setIrq v).a11Shadow = s.a11Shadow := rfl
@[simp] theorem State.setIrq_cy (v : IrqState) : (s.setIrq v).cy = s.cy := rfl
@[simp] theorem State.setIrq_ac (v : IrqState) : (s.setIrq v).ac = s.ac := rfl
@[simp] theorem State.setIrq_f0 (v : IrqState) : (s.setIrq v).f0 = s.f0 := rfl
@[simp] theorem State.setIrq_bs (v : IrqState) : (s.setIrq v).bs = s.bs := rfl
@[simp] theorem State.setIrq_sp (v : IrqState) : (s.setIrq v).sp = s.sp := rfl
@[simp] theorem State.setIrq_f1 (v : IrqState) : (s.setIrq v).f1 = s.f1 := rfl
@[simp] theorem State.setIrq_p1 (v : IrqState) : (s.setIrq v).p1 = s.p1 := rfl
@[simp] theorem State.setIrq_p2 (v : IrqState) : (s.setIrq v).p2 = s.p2 := rfl
@[simp] theorem State.setIrq_data (v : IrqState) : (s.setIrq v).data = s.data := rfl
@[simp] theorem State.setIrq_prog (v : IrqState) : (s.setIrq v).prog = s.prog := rfl
@[simp] theorem State.setIrq_timerCounter (v : IrqState) : (s.setIrq v).timerCounter = s.timerCounter := rfl
@[simp] theorem State.setIrq_prescaler (v : IrqState) : (s.setIrq v).prescaler = s.prescaler := rfl
@[simp] theorem State.setIrq_timerFlag (v : IrqState) : (s.setIrq v).timerFlag = s.timerFlag := rfl
@[simp] theorem State.setIrq_timerOverflow (v : IrqState) : (s.setIrq v).timerOverflow = s.timerOverflow := rfl
@[simp] theorem State.setIrq_t1History (v : IrqState) : (s.setIrq v).t1History = s.t1History := rfl
@[simp] theorem State.setIrq_mode (v : IrqState) : (s.setIrq v).mode = s.mode := rfl
@[simp] theorem State.setIrq_xirqEnabled (v : IrqState) : (s.setIrq v).xirqEnabled = s.xirqEnabled := rfl
@[simp] theorem State.setIrq_tirqEnabled (v : IrqState) : (s.setIrq v).tirqEnabled = s.tirqEnabled := rfl
@[simp] theorem State.setIrq_irqInProgress (v : IrqState) : (s.setIrq v).irqInProgress = v := rfl
@[simp] theorem State.setIrq_irqLastPollResult (v : IrqState) :
    (s.setIrq v).irqLastPollResult = s.irqLastPollResult := rfl
@[simp] theorem State.setIrq_cycles (v : IrqState) : (s.setIrq v).cycles = s.cycles := rfl
@[simp] theorem State.setIrq_cycleDebt (v : IrqState) : (s.setIrq v).cycleDebt = s.cycleDebt := rfl
@[simp] theorem State.setIrq_trace (v : IrqState) : (s.setIrq v).trace = s.trace := rfl
@[simp] theorem State.setIrq_inputs (v : IrqState) : (s.setIrq v).inputs = s.inputs := rfl

/-! ## `clearOverflow` -/

@[simp] theorem State.clearOverflow_acc : s.clearOverflow.acc = s.acc := rfl
@[simp] theorem State.clearOverflow_pc : s.clearOverflow.pc = s.pc := rfl
@[simp] theorem State.clearOverflow_a11 : s.clearOverflow.a11 = s.a11 := rfl
@[simp] theorem State.clearOverflow_a11Shadow : s.clearOverflow.a11Shadow = s.a11Shadow := rfl
@[simp] theorem State.clearOverflow_cy : s.clearOverflow.cy = s.cy := rfl
@[simp] theorem State.clearOverflow_ac : s.clearOverflow.ac = s.ac := rfl
@[simp] theorem State.clearOverflow_f0 : s.clearOverflow.f0 = s.f0 := rfl
@[simp] theorem State.clearOverflow_bs : s.clearOverflow.bs = s.bs := rfl
@[simp] theorem State.clearOverflow_sp : s.clearOverflow.sp = s.sp := rfl
@[simp] theorem State.clearOverflow_f1 : s.clearOverflow.f1 = s.f1 := rfl
@[simp] theorem State.clearOverflow_p1 : s.clearOverflow.p1 = s.p1 := rfl
@[simp] theorem State.clearOverflow_p2 : s.clearOverflow.p2 = s.p2 := rfl
@[simp] theorem State.clearOverflow_data : s.clearOverflow.data = s.data := rfl
@[simp] theorem State.clearOverflow_prog : s.clearOverflow.prog = s.prog := rfl
@[simp] theorem State.clearOverflow_timerCounter : s.clearOverflow.timerCounter = s.timerCounter := rfl
@[simp] theorem State.clearOverflow_prescaler : s.clearOverflow.prescaler = s.prescaler := rfl
@[simp] theorem State.clearOverflow_timerFlag : s.clearOverflow.timerFlag = s.timerFlag := rfl
@[simp] theorem State.clearOverflow_timerOverflow : s.clearOverflow.timerOverflow = false := rfl
@[simp] theorem State.clearOverflow_t1History : s.clearOverflow.t1History = s.t1History := rfl
@[simp] theorem State.clearOverflow_mode : s.clearOverflow.mode = s.mode := rfl
@[simp] theorem State.clearOverflow_xirqEnabled : s.clearOverflow.xirqEnabled = s.xirqEnabled := rfl
@[simp] theorem State.clearOverflow_tirqEnabled : s.clearOverflow.tirqEnabled = s.tirqEnabled := rfl
@[simp] theorem State.clearOverflow_irqInProgress : s.clearOverflow.irqInProgress = s.irqInProgress := rfl
@[simp] theorem State.clearOverflow_irqLastPollResult : s.clearOverflow.irqLastPollResult = s.irqLastPollResult := rfl
@[simp] theorem State.clearOverflow_cycles : s.clearOverflow.cycles = s.cycles := rfl
@[simp] theorem State.clearOverflow_cycleDebt : s.clearOverflow.cycleDebt = s.cycleDebt := rfl
@[simp] theorem State.clearOverflow_trace : s.clearOverflow.trace = s.trace := rfl
@[simp] theorem State.clearOverflow_inputs : s.clearOverflow.inputs = s.inputs := rfl

/-! ## `notePoll` -/

@[simp] theorem State.notePoll_acc (u : Bool) : (s.notePoll u).acc = s.acc := rfl
@[simp] theorem State.notePoll_pc (u : Bool) : (s.notePoll u).pc = s.pc := rfl
@[simp] theorem State.notePoll_a11 (u : Bool) : (s.notePoll u).a11 = s.a11 := rfl
@[simp] theorem State.notePoll_a11Shadow (u : Bool) : (s.notePoll u).a11Shadow = s.a11Shadow := rfl
@[simp] theorem State.notePoll_cy (u : Bool) : (s.notePoll u).cy = s.cy := rfl
@[simp] theorem State.notePoll_ac (u : Bool) : (s.notePoll u).ac = s.ac := rfl
@[simp] theorem State.notePoll_f0 (u : Bool) : (s.notePoll u).f0 = s.f0 := rfl
@[simp] theorem State.notePoll_bs (u : Bool) : (s.notePoll u).bs = s.bs := rfl
@[simp] theorem State.notePoll_sp (u : Bool) : (s.notePoll u).sp = s.sp := rfl
@[simp] theorem State.notePoll_f1 (u : Bool) : (s.notePoll u).f1 = s.f1 := rfl
@[simp] theorem State.notePoll_p1 (u : Bool) : (s.notePoll u).p1 = s.p1 := rfl
@[simp] theorem State.notePoll_p2 (u : Bool) : (s.notePoll u).p2 = s.p2 := rfl
@[simp] theorem State.notePoll_data (u : Bool) : (s.notePoll u).data = s.data := rfl
@[simp] theorem State.notePoll_prog (u : Bool) : (s.notePoll u).prog = s.prog := rfl
@[simp] theorem State.notePoll_timerCounter (u : Bool) : (s.notePoll u).timerCounter = s.timerCounter := rfl
@[simp] theorem State.notePoll_prescaler (u : Bool) : (s.notePoll u).prescaler = s.prescaler := rfl
@[simp] theorem State.notePoll_timerFlag (u : Bool) : (s.notePoll u).timerFlag = s.timerFlag := rfl
@[simp] theorem State.notePoll_timerOverflow (u : Bool) : (s.notePoll u).timerOverflow = s.timerOverflow := rfl
@[simp] theorem State.notePoll_t1History (u : Bool) : (s.notePoll u).t1History = s.t1History := rfl
@[simp] theorem State.notePoll_mode (u : Bool) : (s.notePoll u).mode = s.mode := rfl
@[simp] theorem State.notePoll_xirqEnabled (u : Bool) : (s.notePoll u).xirqEnabled = s.xirqEnabled := rfl
@[simp] theorem State.notePoll_tirqEnabled (u : Bool) : (s.notePoll u).tirqEnabled = s.tirqEnabled := rfl
@[simp] theorem State.notePoll_irqInProgress (u : Bool) : (s.notePoll u).irqInProgress = s.irqInProgress := rfl
@[simp] theorem State.notePoll_irqLastPollResult (u : Bool) :
    (s.notePoll u).irqLastPollResult = (s.irqLastPollResult || u) := rfl
@[simp] theorem State.notePoll_cycles (u : Bool) : (s.notePoll u).cycles = s.cycles := rfl
@[simp] theorem State.notePoll_cycleDebt (u : Bool) : (s.notePoll u).cycleDebt = s.cycleDebt := rfl
@[simp] theorem State.notePoll_trace (u : Bool) : (s.notePoll u).trace = s.trace := rfl
@[simp] theorem State.notePoll_inputs (u : Bool) : (s.notePoll u).inputs = s.inputs := rfl

/-! ## `clearTimerFlag` -/

@[simp] theorem State.clearTimerFlag_acc : s.clearTimerFlag.acc = s.acc := rfl
@[simp] theorem State.clearTimerFlag_pc : s.clearTimerFlag.pc = s.pc := rfl
@[simp] theorem State.clearTimerFlag_a11 : s.clearTimerFlag.a11 = s.a11 := rfl
@[simp] theorem State.clearTimerFlag_a11Shadow : s.clearTimerFlag.a11Shadow = s.a11Shadow := rfl
@[simp] theorem State.clearTimerFlag_cy : s.clearTimerFlag.cy = s.cy := rfl
@[simp] theorem State.clearTimerFlag_ac : s.clearTimerFlag.ac = s.ac := rfl
@[simp] theorem State.clearTimerFlag_f0 : s.clearTimerFlag.f0 = s.f0 := rfl
@[simp] theorem State.clearTimerFlag_bs : s.clearTimerFlag.bs = s.bs := rfl
@[simp] theorem State.clearTimerFlag_sp : s.clearTimerFlag.sp = s.sp := rfl
@[simp] theorem State.clearTimerFlag_f1 : s.clearTimerFlag.f1 = s.f1 := rfl
@[simp] theorem State.clearTimerFlag_p1 : s.clearTimerFlag.p1 = s.p1 := rfl
@[simp] theorem State.clearTimerFlag_p2 : s.clearTimerFlag.p2 = s.p2 := rfl
@[simp] theorem State.clearTimerFlag_data : s.clearTimerFlag.data = s.data := rfl
@[simp] theorem State.clearTimerFlag_prog : s.clearTimerFlag.prog = s.prog := rfl
@[simp] theorem State.clearTimerFlag_timerCounter : s.clearTimerFlag.timerCounter = s.timerCounter := rfl
@[simp] theorem State.clearTimerFlag_prescaler : s.clearTimerFlag.prescaler = s.prescaler := rfl
@[simp] theorem State.clearTimerFlag_timerFlag : s.clearTimerFlag.timerFlag = false := rfl
@[simp] theorem State.clearTimerFlag_timerOverflow : s.clearTimerFlag.timerOverflow = s.timerOverflow := rfl
@[simp] theorem State.clearTimerFlag_t1History : s.clearTimerFlag.t1History = s.t1History := rfl
@[simp] theorem State.clearTimerFlag_mode : s.clearTimerFlag.mode = s.mode := rfl
@[simp] theorem State.clearTimerFlag_xirqEnabled : s.clearTimerFlag.xirqEnabled = s.xirqEnabled := rfl
@[simp] theorem State.clearTimerFlag_tirqEnabled : s.clearTimerFlag.tirqEnabled = s.tirqEnabled := rfl
@[simp] theorem State.clearTimerFlag_irqInProgress : s.clearTimerFlag.irqInProgress = s.irqInProgress := rfl
@[simp] theorem State.clearTimerFlag_irqLastPollResult :
    s.clearTimerFlag.irqLastPollResult = s.irqLastPollResult := rfl
@[simp] theorem State.clearTimerFlag_cycles : s.clearTimerFlag.cycles = s.cycles := rfl
@[simp] theorem State.clearTimerFlag_cycleDebt : s.clearTimerFlag.cycleDebt = s.cycleDebt := rfl
@[simp] theorem State.clearTimerFlag_trace : s.clearTimerFlag.trace = s.trace := rfl
@[simp] theorem State.clearTimerFlag_inputs : s.clearTimerFlag.inputs = s.inputs := rfl

/-! ## Updates that are one of the above -/

@[simp] theorem State.setReg_eq (r : Fin 8) (v : Byte) : s.setReg r v = s.writeData (s.regAddr r) v := rfl
@[simp] theorem State.setAtInd_eq (r : Fin 2) (v : Byte) : s.setAtInd r v = s.writeData (s.ind r) v := rfl
@[simp] theorem State.advance2_eq : s.advance2 = s.advance.advance := rfl

end Sys2Proof.Machine
end

