-- ==== Sys2Proof/Laws/Frames.lean ====
section
/-! SUPPORT. What the branching operations leave unchanged, one lemma per field: conditional jumps, port writes and
the cycle accounting. -/

namespace Sys2Proof.Machine

variable (s : State)

/-- A conditional jump changes nothing but `pc` (R200). -/
theorem State.condJump_frame (c : Bool) (addr8 : Byte) :
    s.condJump c addr8 = { s with pc := (s.condJump c addr8).pc } := by
  unfold State.condJump
  split <;> rfl

@[simp] theorem State.condJump_acc (c : Bool) (addr8 : Byte) : (s.condJump c addr8).acc = s.acc := by rw [State.condJump_frame]
@[simp] theorem State.condJump_a11 (c : Bool) (addr8 : Byte) : (s.condJump c addr8).a11 = s.a11 := by rw [State.condJump_frame]
@[simp] theorem State.condJump_a11Shadow (c : Bool) (addr8 : Byte) : (s.condJump c addr8).a11Shadow = s.a11Shadow := by rw [State.condJump_frame]
@[simp] theorem State.condJump_cy (c : Bool) (addr8 : Byte) : (s.condJump c addr8).cy = s.cy := by rw [State.condJump_frame]
@[simp] theorem State.condJump_ac (c : Bool) (addr8 : Byte) : (s.condJump c addr8).ac = s.ac := by rw [State.condJump_frame]
@[simp] theorem State.condJump_f0 (c : Bool) (addr8 : Byte) : (s.condJump c addr8).f0 = s.f0 := by rw [State.condJump_frame]
@[simp] theorem State.condJump_bs (c : Bool) (addr8 : Byte) : (s.condJump c addr8).bs = s.bs := by rw [State.condJump_frame]
@[simp] theorem State.condJump_sp (c : Bool) (addr8 : Byte) : (s.condJump c addr8).sp = s.sp := by rw [State.condJump_frame]
@[simp] theorem State.condJump_f1 (c : Bool) (addr8 : Byte) : (s.condJump c addr8).f1 = s.f1 := by rw [State.condJump_frame]
@[simp] theorem State.condJump_p1 (c : Bool) (addr8 : Byte) : (s.condJump c addr8).p1 = s.p1 := by rw [State.condJump_frame]
@[simp] theorem State.condJump_p2 (c : Bool) (addr8 : Byte) : (s.condJump c addr8).p2 = s.p2 := by rw [State.condJump_frame]
@[simp] theorem State.condJump_data (c : Bool) (addr8 : Byte) : (s.condJump c addr8).data = s.data := by rw [State.condJump_frame]
@[simp] theorem State.condJump_prog (c : Bool) (addr8 : Byte) : (s.condJump c addr8).prog = s.prog := by rw [State.condJump_frame]
@[simp] theorem State.condJump_timerCounter (c : Bool) (addr8 : Byte) : (s.condJump c addr8).timerCounter = s.timerCounter := by rw [State.condJump_frame]
@[simp] theorem State.condJump_prescaler (c : Bool) (addr8 : Byte) : (s.condJump c addr8).prescaler = s.prescaler := by rw [State.condJump_frame]
@[simp] theorem State.condJump_timerFlag (c : Bool) (addr8 : Byte) : (s.condJump c addr8).timerFlag = s.timerFlag := by rw [State.condJump_frame]
@[simp] theorem State.condJump_timerOverflow (c : Bool) (addr8 : Byte) : (s.condJump c addr8).timerOverflow = s.timerOverflow := by rw [State.condJump_frame]
@[simp] theorem State.condJump_t1History (c : Bool) (addr8 : Byte) : (s.condJump c addr8).t1History = s.t1History := by rw [State.condJump_frame]
@[simp] theorem State.condJump_mode (c : Bool) (addr8 : Byte) : (s.condJump c addr8).mode = s.mode := by rw [State.condJump_frame]
@[simp] theorem State.condJump_xirqEnabled (c : Bool) (addr8 : Byte) : (s.condJump c addr8).xirqEnabled = s.xirqEnabled := by rw [State.condJump_frame]
@[simp] theorem State.condJump_tirqEnabled (c : Bool) (addr8 : Byte) : (s.condJump c addr8).tirqEnabled = s.tirqEnabled := by rw [State.condJump_frame]
@[simp] theorem State.condJump_irqInProgress (c : Bool) (addr8 : Byte) : (s.condJump c addr8).irqInProgress = s.irqInProgress := by rw [State.condJump_frame]
@[simp] theorem State.condJump_irqLastPollResult (c : Bool) (addr8 : Byte) : (s.condJump c addr8).irqLastPollResult = s.irqLastPollResult := by rw [State.condJump_frame]
@[simp] theorem State.condJump_cycles (c : Bool) (addr8 : Byte) : (s.condJump c addr8).cycles = s.cycles := by rw [State.condJump_frame]
@[simp] theorem State.condJump_cycleDebt (c : Bool) (addr8 : Byte) : (s.condJump c addr8).cycleDebt = s.cycleDebt := by rw [State.condJump_frame]
@[simp] theorem State.condJump_trace (c : Bool) (addr8 : Byte) : (s.condJump c addr8).trace = s.trace := by rw [State.condJump_frame]
@[simp] theorem State.condJump_inputs (c : Bool) (addr8 : Byte) : (s.condJump c addr8).inputs = s.inputs := by rw [State.condJump_frame]

/-- A port write changes nothing but the latches and the trace (R266 to R268). -/
theorem State.outPort_frame (p : Port) (v : Byte) :
    s.outPort p v = { s with p1 := (s.outPort p v).p1, p2 := (s.outPort p v).p2, trace := (s.outPort p v).trace } := by
  cases p <;> rfl

@[simp] theorem State.outPort_acc (p : Port) (v : Byte) : (s.outPort p v).acc = s.acc := by rw [State.outPort_frame]
@[simp] theorem State.outPort_pc (p : Port) (v : Byte) : (s.outPort p v).pc = s.pc := by rw [State.outPort_frame]
@[simp] theorem State.outPort_a11 (p : Port) (v : Byte) : (s.outPort p v).a11 = s.a11 := by rw [State.outPort_frame]
@[simp] theorem State.outPort_a11Shadow (p : Port) (v : Byte) : (s.outPort p v).a11Shadow = s.a11Shadow := by rw [State.outPort_frame]
@[simp] theorem State.outPort_cy (p : Port) (v : Byte) : (s.outPort p v).cy = s.cy := by rw [State.outPort_frame]
@[simp] theorem State.outPort_ac (p : Port) (v : Byte) : (s.outPort p v).ac = s.ac := by rw [State.outPort_frame]
@[simp] theorem State.outPort_f0 (p : Port) (v : Byte) : (s.outPort p v).f0 = s.f0 := by rw [State.outPort_frame]
@[simp] theorem State.outPort_bs (p : Port) (v : Byte) : (s.outPort p v).bs = s.bs := by rw [State.outPort_frame]
@[simp] theorem State.outPort_sp (p : Port) (v : Byte) : (s.outPort p v).sp = s.sp := by rw [State.outPort_frame]
@[simp] theorem State.outPort_f1 (p : Port) (v : Byte) : (s.outPort p v).f1 = s.f1 := by rw [State.outPort_frame]
@[simp] theorem State.outPort_data (p : Port) (v : Byte) : (s.outPort p v).data = s.data := by rw [State.outPort_frame]
@[simp] theorem State.outPort_prog (p : Port) (v : Byte) : (s.outPort p v).prog = s.prog := by rw [State.outPort_frame]
@[simp] theorem State.outPort_timerCounter (p : Port) (v : Byte) : (s.outPort p v).timerCounter = s.timerCounter := by rw [State.outPort_frame]
@[simp] theorem State.outPort_prescaler (p : Port) (v : Byte) : (s.outPort p v).prescaler = s.prescaler := by rw [State.outPort_frame]
@[simp] theorem State.outPort_timerFlag (p : Port) (v : Byte) : (s.outPort p v).timerFlag = s.timerFlag := by rw [State.outPort_frame]
@[simp] theorem State.outPort_timerOverflow (p : Port) (v : Byte) : (s.outPort p v).timerOverflow = s.timerOverflow := by rw [State.outPort_frame]
@[simp] theorem State.outPort_t1History (p : Port) (v : Byte) : (s.outPort p v).t1History = s.t1History := by rw [State.outPort_frame]
@[simp] theorem State.outPort_mode (p : Port) (v : Byte) : (s.outPort p v).mode = s.mode := by rw [State.outPort_frame]
@[simp] theorem State.outPort_xirqEnabled (p : Port) (v : Byte) : (s.outPort p v).xirqEnabled = s.xirqEnabled := by rw [State.outPort_frame]
@[simp] theorem State.outPort_tirqEnabled (p : Port) (v : Byte) : (s.outPort p v).tirqEnabled = s.tirqEnabled := by rw [State.outPort_frame]
@[simp] theorem State.outPort_irqInProgress (p : Port) (v : Byte) : (s.outPort p v).irqInProgress = s.irqInProgress := by rw [State.outPort_frame]
@[simp] theorem State.outPort_irqLastPollResult (p : Port) (v : Byte) : (s.outPort p v).irqLastPollResult = s.irqLastPollResult := by rw [State.outPort_frame]
@[simp] theorem State.outPort_cycles (p : Port) (v : Byte) : (s.outPort p v).cycles = s.cycles := by rw [State.outPort_frame]
@[simp] theorem State.outPort_cycleDebt (p : Port) (v : Byte) : (s.outPort p v).cycleDebt = s.cycleDebt := by rw [State.outPort_frame]
@[simp] theorem State.outPort_inputs (p : Port) (v : Byte) : (s.outPort p v).inputs = s.inputs := by rw [State.outPort_frame]

/-- One machine cycle changes nothing but the cycle count and the timer unit (R303 to R306). -/
theorem State.oneCycle_frame :
    s.oneCycle = { s with
      cycles := s.cycles + 1
      prescaler := s.oneCycle.prescaler
      timerCounter := s.oneCycle.timerCounter
      timerFlag := s.oneCycle.timerFlag
      timerOverflow := s.oneCycle.timerOverflow
      t1History := s.oneCycle.t1History } := by
  unfold State.oneCycle State.timerCycle State.counterCycle
  split <;> (try split) <;> rfl

@[simp] theorem State.oneCycle_acc : s.oneCycle.acc = s.acc := by rw [State.oneCycle_frame]
@[simp] theorem State.oneCycle_pc : s.oneCycle.pc = s.pc := by rw [State.oneCycle_frame]
@[simp] theorem State.oneCycle_a11 : s.oneCycle.a11 = s.a11 := by rw [State.oneCycle_frame]
@[simp] theorem State.oneCycle_a11Shadow : s.oneCycle.a11Shadow = s.a11Shadow := by rw [State.oneCycle_frame]
@[simp] theorem State.oneCycle_cy : s.oneCycle.cy = s.cy := by rw [State.oneCycle_frame]
@[simp] theorem State.oneCycle_ac : s.oneCycle.ac = s.ac := by rw [State.oneCycle_frame]
@[simp] theorem State.oneCycle_f0 : s.oneCycle.f0 = s.f0 := by rw [State.oneCycle_frame]
@[simp] theorem State.oneCycle_bs : s.oneCycle.bs = s.bs := by rw [State.oneCycle_frame]
@[simp] theorem State.oneCycle_sp : s.oneCycle.sp = s.sp := by rw [State.oneCycle_frame]
@[simp] theorem State.oneCycle_f1 : s.oneCycle.f1 = s.f1 := by rw [State.oneCycle_frame]
@[simp] theorem State.oneCycle_p1 : s.oneCycle.p1 = s.p1 := by rw [State.oneCycle_frame]
@[simp] theorem State.oneCycle_p2 : s.oneCycle.p2 = s.p2 := by rw [State.oneCycle_frame]
@[simp] theorem State.oneCycle_data : s.oneCycle.data = s.data := by rw [State.oneCycle_frame]
@[simp] theorem State.oneCycle_prog : s.oneCycle.prog = s.prog := by rw [State.oneCycle_frame]
@[simp] theorem State.oneCycle_mode : s.oneCycle.mode = s.mode := by rw [State.oneCycle_frame]
@[simp] theorem State.oneCycle_xirqEnabled : s.oneCycle.xirqEnabled = s.xirqEnabled := by rw [State.oneCycle_frame]
@[simp] theorem State.oneCycle_tirqEnabled : s.oneCycle.tirqEnabled = s.tirqEnabled := by rw [State.oneCycle_frame]
@[simp] theorem State.oneCycle_irqInProgress : s.oneCycle.irqInProgress = s.irqInProgress := by rw [State.oneCycle_frame]
@[simp] theorem State.oneCycle_irqLastPollResult : s.oneCycle.irqLastPollResult = s.irqLastPollResult := by rw [State.oneCycle_frame]
@[simp] theorem State.oneCycle_cycleDebt : s.oneCycle.cycleDebt = s.cycleDebt := by rw [State.oneCycle_frame]
@[simp] theorem State.oneCycle_trace : s.oneCycle.trace = s.trace := by rw [State.oneCycle_frame]
@[simp] theorem State.oneCycle_inputs : s.oneCycle.inputs = s.inputs := by rw [State.oneCycle_frame]
@[simp] theorem State.oneCycle_cycles : s.oneCycle.cycles = s.cycles + 1 := by rw [State.oneCycle_frame]

/-- The accounting of `n` cycles changes nothing but the cycle count, by `n`, and the timer unit (R303). -/
theorem State.account_frame (n : Nat) :
    s.account n = { s with
      cycles := s.cycles + n
      prescaler := (s.account n).prescaler
      timerCounter := (s.account n).timerCounter
      timerFlag := (s.account n).timerFlag
      timerOverflow := (s.account n).timerOverflow
      t1History := (s.account n).t1History } := by
  induction n generalizing s with
  | zero => rfl
  | succ n ih =>
    have h := ih s.oneCycle
    rw [State.oneCycle_cycles, Nat.add_assoc, Nat.add_comm 1 n] at h
    unfold State.account
    rw [h, State.oneCycle_frame]

@[simp] theorem State.account_acc (n : Nat) : (s.account n).acc = s.acc := by rw [State.account_frame]
@[simp] theorem State.account_pc (n : Nat) : (s.account n).pc = s.pc := by rw [State.account_frame]
@[simp] theorem State.account_a11 (n : Nat) : (s.account n).a11 = s.a11 := by rw [State.account_frame]
@[simp] theorem State.account_a11Shadow (n : Nat) : (s.account n).a11Shadow = s.a11Shadow := by rw [State.account_frame]
@[simp] theorem State.account_cy (n : Nat) : (s.account n).cy = s.cy := by rw [State.account_frame]
@[simp] theorem State.account_ac (n : Nat) : (s.account n).ac = s.ac := by rw [State.account_frame]
@[simp] theorem State.account_f0 (n : Nat) : (s.account n).f0 = s.f0 := by rw [State.account_frame]
@[simp] theorem State.account_bs (n : Nat) : (s.account n).bs = s.bs := by rw [State.account_frame]
@[simp] theorem State.account_sp (n : Nat) : (s.account n).sp = s.sp := by rw [State.account_frame]
@[simp] theorem State.account_f1 (n : Nat) : (s.account n).f1 = s.f1 := by rw [State.account_frame]
@[simp] theorem State.account_p1 (n : Nat) : (s.account n).p1 = s.p1 := by rw [State.account_frame]
@[simp] theorem State.account_p2 (n : Nat) : (s.account n).p2 = s.p2 := by rw [State.account_frame]
@[simp] theorem State.account_data (n : Nat) : (s.account n).data = s.data := by rw [State.account_frame]
@[simp] theorem State.account_prog (n : Nat) : (s.account n).prog = s.prog := by rw [State.account_frame]
@[simp] theorem State.account_mode (n : Nat) : (s.account n).mode = s.mode := by rw [State.account_frame]
@[simp] theorem State.account_xirqEnabled (n : Nat) : (s.account n).xirqEnabled = s.xirqEnabled := by rw [State.account_frame]
@[simp] theorem State.account_tirqEnabled (n : Nat) : (s.account n).tirqEnabled = s.tirqEnabled := by rw [State.account_frame]
@[simp] theorem State.account_irqInProgress (n : Nat) : (s.account n).irqInProgress = s.irqInProgress := by rw [State.account_frame]
@[simp] theorem State.account_irqLastPollResult (n : Nat) : (s.account n).irqLastPollResult = s.irqLastPollResult := by rw [State.account_frame]
@[simp] theorem State.account_cycleDebt (n : Nat) : (s.account n).cycleDebt = s.cycleDebt := by rw [State.account_frame]
@[simp] theorem State.account_trace (n : Nat) : (s.account n).trace = s.trace := by rw [State.account_frame]
@[simp] theorem State.account_inputs (n : Nat) : (s.account n).inputs = s.inputs := by rw [State.account_frame]
@[simp] theorem State.account_cycles (n : Nat) : (s.account n).cycles = s.cycles + n := by rw [State.account_frame]

end Sys2Proof.Machine
end

