-- ==== Sys2Proof/Laws/Memory.lean ====
section
/-! SUPPORT. The laws of the byte memories: read after write, and that every operation keeps the canonical form. -/

namespace Sys2Proof.Machine

/-! ## Read after write -/

theorem Memory.read_insert_same (m : Memory) (a : Nat) (v : Byte) : (Memory.insert m a v).read a = v := by
  induction m with
  | nil => simp [Memory.insert, Memory.read]
  | cons c m ih =>
    unfold Memory.insert
    split_ifs with h1 h2
    · simp [Memory.read]
    · simp [Memory.read]
    · simp [Memory.read, h2, ih]

theorem Memory.read_insert_other (m : Memory) {a b : Nat} (v : Byte) (h : b ≠ a) :
    (Memory.insert m a v).read b = m.read b := by
  induction m with
  | nil => simp [Memory.insert, Memory.read, h.symm]
  | cons c m ih =>
    unfold Memory.insert
    split_ifs with h1 h2
    · simp [Memory.read, h.symm]
    · subst h2
      simp [Memory.read, h.symm]
    · simp [Memory.read, ih]

theorem Memory.read_remove_same (m : Memory) (a : Nat) : (Memory.remove m a).read a = Memory.blank := by
  induction m with
  | nil => rfl
  | cons c m ih =>
    by_cases h : c.1 = a
    · simpa [Memory.remove, h] using ih
    · have : Memory.remove (c :: m) a = c :: Memory.remove m a := by simp [Memory.remove, h]
      rw [this]
      simpa [Memory.read, h] using ih

theorem Memory.read_remove_other (m : Memory) {a b : Nat} (h : b ≠ a) : (Memory.remove m a).read b = m.read b := by
  induction m with
  | nil => rfl
  | cons c m ih =>
    by_cases hc : c.1 = a
    · have e : Memory.remove (c :: m) a = Memory.remove m a := by simp [Memory.remove, hc]
      rw [e, ih]
      simp [Memory.read, hc, h.symm]
    · have e : Memory.remove (c :: m) a = c :: Memory.remove m a := by simp [Memory.remove, hc]
      rw [e]
      simp [Memory.read, ih]

/-- A read after a write to the same address gives the value written (R73). -/
@[simp] theorem Memory.read_write_same (m : Memory) (a : Nat) (v : Byte) : (m.write a v).read a = v := by
  unfold Memory.write
  split_ifs with h
  · rw [Memory.read_remove_same, h]
  · exact Memory.read_insert_same m a v

/-- A write leaves every other byte alone (R73). -/
theorem Memory.read_write_other (m : Memory) {a b : Nat} (v : Byte) (h : b ≠ a) : (m.write a v).read b = m.read b := by
  unfold Memory.write
  split_ifs
  · exact Memory.read_remove_other m h
  · exact Memory.read_insert_other m v h

/-- What a write can do to any byte. -/
theorem Memory.read_write (m : Memory) (a b : Nat) (v : Byte) :
    (m.write a v).read b = if b = a then v else m.read b := by
  split_ifs with h
  · rw [h, Memory.read_write_same]
  · exact Memory.read_write_other m v h

/-! ## The canonical form -/

theorem Memory.wfFrom_cons {size lo : Nat} {c : Host.Cell} {m : Memory} :
    Memory.wfFrom size lo (c :: m) = true ↔
      lo ≤ c.1 ∧ c.1 < size ∧ c.2 ≠ Memory.blank ∧ Memory.wfFrom size (c.1 + 1) m = true := by
  simp [Memory.wfFrom, and_assoc]

theorem Memory.wfFrom_mono {size lo lo' : Nat} {m : Memory} (h : lo' ≤ lo) (hm : Memory.wfFrom size lo m = true) :
    Memory.wfFrom size lo' m = true := by
  cases m with
  | nil => rfl
  | cons c m =>
    rw [Memory.wfFrom_cons] at hm ⊢
    exact ⟨h.trans hm.1, hm.2⟩

theorem Memory.wfFrom_insert {size lo a : Nat} {m : Memory} {v : Byte} (hm : Memory.wfFrom size lo m = true)
    (hlo : lo ≤ a) (ha : a < size) (hv : v ≠ Memory.blank) : Memory.wfFrom size lo (Memory.insert m a v) = true := by
  induction m generalizing lo with
  | nil => simp [Memory.insert, hlo, ha, hv, Memory.wfFrom]
  | cons c m ih =>
    rw [Memory.wfFrom_cons] at hm
    unfold Memory.insert
    split_ifs with h1 h2
    · simp only [Memory.wfFrom_cons]
      exact ⟨hlo, ha, hv, h1, hm.2.1, hm.2.2.1, hm.2.2.2⟩
    · rw [Memory.wfFrom_cons]
      exact ⟨hlo, ha, hv, h2 ▸ hm.2.2.2⟩
    · rw [Memory.wfFrom_cons]
      exact ⟨hm.1, hm.2.1, hm.2.2.1, ih hm.2.2.2 (by omega)⟩

theorem Memory.wfFrom_remove {size lo : Nat} {m : Memory} (a : Nat) (hm : Memory.wfFrom size lo m = true) :
    Memory.wfFrom size lo (Memory.remove m a) = true := by
  induction m generalizing lo with
  | nil => rfl
  | cons c m ih =>
    rw [Memory.wfFrom_cons] at hm
    by_cases hc : c.1 = a
    · have e : Memory.remove (c :: m) a = Memory.remove m a := by simp [Memory.remove, hc]
      rw [e]
      exact Memory.wfFrom_mono (by omega) (ih hm.2.2.2)
    · have e : Memory.remove (c :: m) a = c :: Memory.remove m a := by simp [Memory.remove, hc]
      rw [e, Memory.wfFrom_cons]
      exact ⟨hm.1, hm.2.1, hm.2.2.1, ih hm.2.2.2⟩

/-- A write inside the address space keeps the canonical form. -/
theorem Memory.wf_write {size a : Nat} {m : Memory} {v : Byte} (hm : m.wf size = true) (ha : a < size) :
    (m.write a v).wf size = true := by
  unfold Memory.write
  split_ifs with h
  · exact Memory.wfFrom_remove a hm
  · exact Memory.wfFrom_insert hm (Nat.zero_le a) ha h

/-- The memories after reset have the canonical form. -/
theorem Memory.wf_reset : State.reset.data.wf dataSize = true ∧ State.reset.prog.wf progSize = true := ⟨rfl, rfl⟩

/-! ## The memory operations of the machine stay inside the address space -/

theorem State.regAddr_lt (s : State) (r : Fin 8) : s.regAddr r < dataSize := by
  unfold State.regAddr State.rbBase dataSize
  split <;> omega

theorem State.ind_lt (s : State) (r : Fin 2) : s.ind r < dataSize := Nat.mod_lt _ (by decide)

theorem stackLow_lt (i : BitVec 3) : stackLow i < dataSize := by
  have := i.isLt
  unfold stackLow dataSize
  omega

theorem stackHigh_lt (i : BitVec 3) : stackHigh i < dataSize := by
  have := i.isLt
  unfold stackHigh dataSize
  omega

theorem State.push_wf {s : State} (h : s.data.wf dataSize = true) : s.push.data.wf dataSize = true :=
  Memory.wf_write (Memory.wf_write h (stackLow_lt _)) (stackHigh_lt _)

/-- The bytes that a push stores, and that it stores no other (R34). -/
theorem State.push_read (s : State) (a : Nat) :
    s.push.data.read a =
      if a = stackHigh s.sp then s.flagsNibble ++ s.pc.extractLsb' 8 4
      else if a = stackLow s.sp then s.pc.extractLsb' 0 8
      else s.data.read a := by
  simp only [State.push_data, Memory.read_write]

end Sys2Proof.Machine
end

