-- ==== Sys2Proof/Laws/Ops.lean ====
section
/-! SUPPORT. One lemma for each shared operation that says once everything it can do. -/

namespace Sys2Proof.Machine

variable (s : State)

/-! ## The program counter -/

theorem maskPc_idle (v : Addr) : maskPc .idle v = v := rfl

theorem maskPc_busy {irq : IrqState} (h : irq ≠ .idle) (v : Addr) : maskPc irq v = v &&& 0x7FF := if_neg h

/-- Inside a handler every address written to `pc` lies below 0x800 (R26). -/
theorem maskPc_lt {irq : IrqState} (h : irq ≠ .idle) (v : Addr) : (maskPc irq v).toNat < 2048 := by
  rw [maskPc_busy h, BitVec.toNat_and]
  exact Nat.lt_of_le_of_lt Nat.and_le_right (by decide)

/-- What a conditional jump can do (R200). -/
theorem State.condJump_cases (c : Bool) (addr8 : Byte) :
    (c = true ∧ s.condJump c addr8 = s.advance.setPc (inPage s.pc addr8)) ∨
      (c = false ∧ s.condJump c addr8 = s.advance) := by
  cases c
  · exact .inr ⟨rfl, rfl⟩
  · exact .inl ⟨rfl, rfl⟩

/-! ## The ports -/

@[simp] theorem State.outPort_latch (p : Port) (v : Byte) : (s.outPort p v).latch p = v := by cases p <;> rfl

@[simp] theorem State.outPort_trace (p : Port) (v : Byte) :
    (s.outPort p v).trace = s.trace ++ [.portOut p v] := by cases p <;> rfl

theorem State.outPort_other {p q : Port} (v : Byte) (h : q ≠ p) : (s.outPort p v).latch q = s.latch q := by
  cases p <;> cases q <;> first | rfl | exact absurd rfl h

/-! ## The timer unit -/

/-- What one machine cycle can do (R303 to R305). -/
theorem State.oneCycle_cases :
    (s.mode = .off ∧ s.oneCycle = s.addCycle) ∨
      (s.mode = .timer ∧ s.oneCycle = s.addCycle.timerCycle) ∨
      (s.mode = .counter ∧ s.oneCycle = s.addCycle.counterCycle) := by
  unfold State.oneCycle
  cases s.mode <;> simp

/-- What one cycle in timer mode can do (R304). -/
theorem State.timerCycle_cases :
    (s.prescaler + 1 = 0 ∧ s.timerCycle = (s.setPrescaler (s.prescaler + 1)).counterTick) ∨
      (s.prescaler + 1 ≠ 0 ∧ s.timerCycle = s.setPrescaler (s.prescaler + 1)) := by
  unfold State.timerCycle
  split_ifs with h
  · exact .inl ⟨h, rfl⟩
  · exact .inr ⟨h, rfl⟩

/-- What one cycle in event-counter mode can do (R305). -/
theorem State.counterCycle_cases :
    (shiftHistory s.t1History s.t1In = 0b10 ∧
        s.counterCycle = (s.setHistory (shiftHistory s.t1History s.t1In)).counterTick) ∨
      (shiftHistory s.t1History s.t1In ≠ 0b10 ∧ s.counterCycle = s.setHistory (shiftHistory s.t1History s.t1In)) := by
  unfold State.counterCycle
  split_ifs with h
  · exact .inl ⟨h, rfl⟩
  · exact .inr ⟨h, rfl⟩

/-- A tick arms the sticky latch only while the timer interrupt is enabled (R306, R307). -/
theorem State.counterTick_overflow :
    s.counterTick.timerOverflow = true → s.timerOverflow = true ∨ s.tirqEnabled = true := by
  simp +contextual [or_imp]

/-- One cycle arms the sticky latch only while the timer interrupt is enabled (R307). -/
theorem State.oneCycle_overflow :
    s.oneCycle.timerOverflow = true → s.timerOverflow = true ∨ s.tirqEnabled = true := by
  rcases s.oneCycle_cases with ⟨-, h⟩ | ⟨-, h⟩ | ⟨-, h⟩ <;> rw [h]
  · exact .inl
  · rcases s.addCycle.timerCycle_cases with ⟨-, h⟩ | ⟨-, h⟩ <;> rw [h]
    · exact State.counterTick_overflow _
    · exact .inl
  · rcases s.addCycle.counterCycle_cases with ⟨-, h⟩ | ⟨-, h⟩ <;> rw [h]
    · exact State.counterTick_overflow _
    · exact .inl

/-- Accounting arms the sticky latch only while the timer interrupt is enabled (R307). -/
theorem State.account_overflow (n : Nat) :
    (s.account n).timerOverflow = true → s.timerOverflow = true ∨ s.tirqEnabled = true := by
  induction n generalizing s with
  | zero => exact .inl
  | succ n ih =>
    intro h
    rcases ih s.oneCycle h with h | h
    · exact s.oneCycle_overflow h
    · exact .inr (by simpa using h)

/-! ## Interrupt entry -/

theorem State.applyQuirk_frame (q : Bool) : s.applyQuirk q = { s with pc := (s.applyQuirk q).pc } := by
  unfold State.applyQuirk
  split <;> rfl

/-- What the boundary check can do (R311). -/
theorem State.checkInterrupts_cases :
    (s.irqInProgress = .idle ∧ (s.xirqEnabled && s.intIn) = true ∧ s.checkInterrupts = s.enterExternal) ∨
      (s.irqInProgress = .idle ∧ (s.xirqEnabled && s.intIn) = false ∧ (s.tirqEnabled && s.timerOverflow) = true ∧
        s.checkInterrupts = s.enterTimer) ∨
      s.checkInterrupts = s := by
  unfold State.checkInterrupts
  split_ifs with h1 h2 h3
  · exact .inl ⟨h1, h2, rfl⟩
  · exact .inr (.inl ⟨h1, by simpa using h2, h3, rfl⟩)
  · exact .inr (.inr rfl)
  · exact .inr (.inr rfl)

/-- Everything the external entry writes (R312, R317). -/
theorem State.enterExternalWith_eq (q : Bool) :
    s.enterExternalWith q =
      { s.account 2 with
        data := (((s.account 2).setIrq .external).applyQuirk q).push.data
        sp := s.sp + 1
        irqInProgress := .external
        a11Shadow := s.a11
        a11 := false
        pc := vecExternal } := by
  unfold State.enterExternalWith State.vectorTo
  rw [State.applyQuirk_frame]
  simp [State.push, State.setIrq]

/-- Everything the timer entry writes (R313, R317). -/
theorem State.enterTimer_eq :
    s.enterTimer =
      { s.account 2 with
        data := ((s.account 2).setIrq .timer).push.data
        sp := s.sp + 1
        irqInProgress := .timer
        a11Shadow := s.a11
        a11 := false
        pc := vecTimer
        timerOverflow := false } := by
  unfold State.enterTimer State.vectorTo
  simp [State.push, State.setIrq, State.clearOverflow]

/-! ## The step -/

/-- A step that answers next is an instruction that does, with the end of the step after it (R300). -/
theorem step_next_cases {t : State} (h : step s = .next t) :
    ∃ u, exec s.fetchInstr s.beginStep = .next u ∧ t = u.endStep s.fetchInstr.cycles := by
  unfold step at h
  split at h
  · next u hu => exact ⟨u, hu, by injection h with h; exact h.symm⟩
  · cases h
  · cases h

/-- What one turn of `Run`'s loop can do (R370). -/
theorem runTo_succ (target fuel : Nat) :
    runTo target (fuel + 1) s =
      if s.cycles < target then
        match step s with
        | .next t => runTo target fuel t
        | .fault f => .fault f
        | .refused r => .refused r
      else .next s := rfl

end Sys2Proof.Machine
end

