-- ==== Sys2Proof/Laws/PerInstr.lean ====
section
/-! SUPPORT. Statements for all instructions, made per instruction. -/

namespace Sys2Proof.Laws

/-- An instruction's encoding is one or two bytes, and a 2-byte instruction costs 2 cycles (R93, R94). -/
def EncodeLength.Statement (i : Instr) : Prop :=
  ((encode i).length = 1 ∨ (encode i).length = 2) ∧ ((encode i).length = 2 → i.cycles = 2)

theorem EncodeLength.addAR (r : Fin 8) : EncodeLength.Statement (.addAR r) := ⟨.inl rfl, fun h => by cases h⟩
theorem EncodeLength.addAInd (r : Fin 2) : EncodeLength.Statement (.addAInd r) := ⟨.inl rfl, fun h => by cases h⟩
theorem EncodeLength.addAImm (data : Byte) : EncodeLength.Statement (.addAImm data) := ⟨.inr rfl, fun _ => rfl⟩
theorem EncodeLength.addcAR (r : Fin 8) : EncodeLength.Statement (.addcAR r) := ⟨.inl rfl, fun h => by cases h⟩
theorem EncodeLength.addcAInd (r : Fin 2) : EncodeLength.Statement (.addcAInd r) := ⟨.inl rfl, fun h => by cases h⟩
theorem EncodeLength.addcAImm (data : Byte) : EncodeLength.Statement (.addcAImm data) := ⟨.inr rfl, fun _ => rfl⟩
theorem EncodeLength.daA : EncodeLength.Statement (.daA) := ⟨.inl rfl, fun h => by cases h⟩
theorem EncodeLength.anlAR (r : Fin 8) : EncodeLength.Statement (.anlAR r) := ⟨.inl rfl, fun h => by cases h⟩
theorem EncodeLength.anlAInd (r : Fin 2) : EncodeLength.Statement (.anlAInd r) := ⟨.inl rfl, fun h => by cases h⟩
theorem EncodeLength.anlAImm (data : Byte) : EncodeLength.Statement (.anlAImm data) := ⟨.inr rfl, fun _ => rfl⟩
theorem EncodeLength.orlAR (r : Fin 8) : EncodeLength.Statement (.orlAR r) := ⟨.inl rfl, fun h => by cases h⟩
theorem EncodeLength.orlAInd (r : Fin 2) : EncodeLength.Statement (.orlAInd r) := ⟨.inl rfl, fun h => by cases h⟩
theorem EncodeLength.orlAImm (data : Byte) : EncodeLength.Statement (.orlAImm data) := ⟨.inr rfl, fun _ => rfl⟩
theorem EncodeLength.xrlAR (r : Fin 8) : EncodeLength.Statement (.xrlAR r) := ⟨.inl rfl, fun h => by cases h⟩
theorem EncodeLength.xrlAInd (r : Fin 2) : EncodeLength.Statement (.xrlAInd r) := ⟨.inl rfl, fun h => by cases h⟩
theorem EncodeLength.xrlAImm (data : Byte) : EncodeLength.Statement (.xrlAImm data) := ⟨.inr rfl, fun _ => rfl⟩
theorem EncodeLength.clrA : EncodeLength.Statement (.clrA) := ⟨.inl rfl, fun h => by cases h⟩
theorem EncodeLength.cplA : EncodeLength.Statement (.cplA) := ⟨.inl rfl, fun h => by cases h⟩
theorem EncodeLength.movAR (r : Fin 8) : EncodeLength.Statement (.movAR r) := ⟨.inl rfl, fun h => by cases h⟩
theorem EncodeLength.movAInd (r : Fin 2) : EncodeLength.Statement (.movAInd r) := ⟨.inl rfl, fun h => by cases h⟩
theorem EncodeLength.movAImm (data : Byte) : EncodeLength.Statement (.movAImm data) := ⟨.inr rfl, fun _ => rfl⟩
theorem EncodeLength.movRA (r : Fin 8) : EncodeLength.Statement (.movRA r) := ⟨.inl rfl, fun h => by cases h⟩
theorem EncodeLength.movIndA (r : Fin 2) : EncodeLength.Statement (.movIndA r) := ⟨.inl rfl, fun h => by cases h⟩
theorem EncodeLength.movRImm (r : Fin 8) (data : Byte) : EncodeLength.Statement (.movRImm r data) := ⟨.inr rfl, fun _ => rfl⟩
theorem EncodeLength.movIndImm (r : Fin 2) (data : Byte) : EncodeLength.Statement (.movIndImm r data) := ⟨.inr rfl, fun _ => rfl⟩
theorem EncodeLength.xchAR (r : Fin 8) : EncodeLength.Statement (.xchAR r) := ⟨.inl rfl, fun h => by cases h⟩
theorem EncodeLength.xchAInd (r : Fin 2) : EncodeLength.Statement (.xchAInd r) := ⟨.inl rfl, fun h => by cases h⟩
theorem EncodeLength.xchdAInd (r : Fin 2) : EncodeLength.Statement (.xchdAInd r) := ⟨.inl rfl, fun h => by cases h⟩
theorem EncodeLength.swapA : EncodeLength.Statement (.swapA) := ⟨.inl rfl, fun h => by cases h⟩
theorem EncodeLength.movpAAtA : EncodeLength.Statement (.movpAAtA) := ⟨.inl rfl, fun h => by cases h⟩
theorem EncodeLength.movp3AAtA : EncodeLength.Statement (.movp3AAtA) := ⟨.inl rfl, fun h => by cases h⟩
theorem EncodeLength.movxAInd (r : Fin 2) : EncodeLength.Statement (.movxAInd r) := ⟨.inl rfl, fun h => by cases h⟩
theorem EncodeLength.incA : EncodeLength.Statement (.incA) := ⟨.inl rfl, fun h => by cases h⟩
theorem EncodeLength.decA : EncodeLength.Statement (.decA) := ⟨.inl rfl, fun h => by cases h⟩
theorem EncodeLength.incR (r : Fin 8) : EncodeLength.Statement (.incR r) := ⟨.inl rfl, fun h => by cases h⟩
theorem EncodeLength.decR (r : Fin 8) : EncodeLength.Statement (.decR r) := ⟨.inl rfl, fun h => by cases h⟩
theorem EncodeLength.incInd (r : Fin 2) : EncodeLength.Statement (.incInd r) := ⟨.inl rfl, fun h => by cases h⟩
theorem EncodeLength.rlA : EncodeLength.Statement (.rlA) := ⟨.inl rfl, fun h => by cases h⟩
theorem EncodeLength.rlcA : EncodeLength.Statement (.rlcA) := ⟨.inl rfl, fun h => by cases h⟩
theorem EncodeLength.rrA : EncodeLength.Statement (.rrA) := ⟨.inl rfl, fun h => by cases h⟩
theorem EncodeLength.rrcA : EncodeLength.Statement (.rrcA) := ⟨.inl rfl, fun h => by cases h⟩
theorem EncodeLength.jbb (b : Fin 8) (addr8 : Byte) : EncodeLength.Statement (.jbb b addr8) := ⟨.inr rfl, fun _ => rfl⟩
theorem EncodeLength.jc (addr8 : Byte) : EncodeLength.Statement (.jc addr8) := ⟨.inr rfl, fun _ => rfl⟩
theorem EncodeLength.jnc (addr8 : Byte) : EncodeLength.Statement (.jnc addr8) := ⟨.inr rfl, fun _ => rfl⟩
theorem EncodeLength.jz (addr8 : Byte) : EncodeLength.Statement (.jz addr8) := ⟨.inr rfl, fun _ => rfl⟩
theorem EncodeLength.jnz (addr8 : Byte) : EncodeLength.Statement (.jnz addr8) := ⟨.inr rfl, fun _ => rfl⟩
theorem EncodeLength.jf0 (addr8 : Byte) : EncodeLength.Statement (.jf0 addr8) := ⟨.inr rfl, fun _ => rfl⟩
theorem EncodeLength.jf1 (addr8 : Byte) : EncodeLength.Statement (.jf1 addr8) := ⟨.inr rfl, fun _ => rfl⟩
theorem EncodeLength.jt0 (addr8 : Byte) : EncodeLength.Statement (.jt0 addr8) := ⟨.inr rfl, fun _ => rfl⟩
theorem EncodeLength.jnt0 (addr8 : Byte) : EncodeLength.Statement (.jnt0 addr8) := ⟨.inr rfl, fun _ => rfl⟩
theorem EncodeLength.jt1 (addr8 : Byte) : EncodeLength.Statement (.jt1 addr8) := ⟨.inr rfl, fun _ => rfl⟩
theorem EncodeLength.jnt1 (addr8 : Byte) : EncodeLength.Statement (.jnt1 addr8) := ⟨.inr rfl, fun _ => rfl⟩
theorem EncodeLength.jni (addr8 : Byte) : EncodeLength.Statement (.jni addr8) := ⟨.inr rfl, fun _ => rfl⟩
theorem EncodeLength.jtf (addr8 : Byte) : EncodeLength.Statement (.jtf addr8) := ⟨.inr rfl, fun _ => rfl⟩
theorem EncodeLength.djnzR (r : Fin 8) (addr8 : Byte) : EncodeLength.Statement (.djnzR r addr8) := ⟨.inr rfl, fun _ => rfl⟩
theorem EncodeLength.jmp (aHi : BitVec 3) (addr8 : Byte) : EncodeLength.Statement (.jmp aHi addr8) := ⟨.inr rfl, fun _ => rfl⟩
theorem EncodeLength.jmppAtA : EncodeLength.Statement (.jmppAtA) := ⟨.inl rfl, fun h => by cases h⟩
theorem EncodeLength.call (aHi : BitVec 3) (addr8 : Byte) : EncodeLength.Statement (.call aHi addr8) := ⟨.inr rfl, fun _ => rfl⟩
theorem EncodeLength.ret : EncodeLength.Statement (.ret) := ⟨.inl rfl, fun h => by cases h⟩
theorem EncodeLength.retr : EncodeLength.Statement (.retr) := ⟨.inl rfl, fun h => by cases h⟩
theorem EncodeLength.clrC : EncodeLength.Statement (.clrC) := ⟨.inl rfl, fun h => by cases h⟩
theorem EncodeLength.cplC : EncodeLength.Statement (.cplC) := ⟨.inl rfl, fun h => by cases h⟩
theorem EncodeLength.clrF0 : EncodeLength.Statement (.clrF0) := ⟨.inl rfl, fun h => by cases h⟩
theorem EncodeLength.cplF0 : EncodeLength.Statement (.cplF0) := ⟨.inl rfl, fun h => by cases h⟩
theorem EncodeLength.clrF1 : EncodeLength.Statement (.clrF1) := ⟨.inl rfl, fun h => by cases h⟩
theorem EncodeLength.cplF1 : EncodeLength.Statement (.cplF1) := ⟨.inl rfl, fun h => by cases h⟩
theorem EncodeLength.selRB0 : EncodeLength.Statement (.selRB0) := ⟨.inl rfl, fun h => by cases h⟩
theorem EncodeLength.selRB1 : EncodeLength.Statement (.selRB1) := ⟨.inl rfl, fun h => by cases h⟩
theorem EncodeLength.selMB0 : EncodeLength.Statement (.selMB0) := ⟨.inl rfl, fun h => by cases h⟩
theorem EncodeLength.selMB1 : EncodeLength.Statement (.selMB1) := ⟨.inl rfl, fun h => by cases h⟩
theorem EncodeLength.movAPsw : EncodeLength.Statement (.movAPsw) := ⟨.inl rfl, fun h => by cases h⟩
theorem EncodeLength.movPswA : EncodeLength.Statement (.movPswA) := ⟨.inl rfl, fun h => by cases h⟩
theorem EncodeLength.enI : EncodeLength.Statement (.enI) := ⟨.inl rfl, fun h => by cases h⟩
theorem EncodeLength.disI : EncodeLength.Statement (.disI) := ⟨.inl rfl, fun h => by cases h⟩
theorem EncodeLength.enTcnti : EncodeLength.Statement (.enTcnti) := ⟨.inl rfl, fun h => by cases h⟩
theorem EncodeLength.disTcnti : EncodeLength.Statement (.disTcnti) := ⟨.inl rfl, fun h => by cases h⟩
theorem EncodeLength.nop : EncodeLength.Statement (.nop) := ⟨.inl rfl, fun h => by cases h⟩
theorem EncodeLength.strtT : EncodeLength.Statement (.strtT) := ⟨.inl rfl, fun h => by cases h⟩
theorem EncodeLength.strtCnt : EncodeLength.Statement (.strtCnt) := ⟨.inl rfl, fun h => by cases h⟩
theorem EncodeLength.stopTcnt : EncodeLength.Statement (.stopTcnt) := ⟨.inl rfl, fun h => by cases h⟩
theorem EncodeLength.movAT : EncodeLength.Statement (.movAT) := ⟨.inl rfl, fun h => by cases h⟩
theorem EncodeLength.movTA : EncodeLength.Statement (.movTA) := ⟨.inl rfl, fun h => by cases h⟩
theorem EncodeLength.inAP1 : EncodeLength.Statement (.inAP1) := ⟨.inl rfl, fun h => by cases h⟩
theorem EncodeLength.inAP2 : EncodeLength.Statement (.inAP2) := ⟨.inl rfl, fun h => by cases h⟩
theorem EncodeLength.outlP1A : EncodeLength.Statement (.outlP1A) := ⟨.inl rfl, fun h => by cases h⟩
theorem EncodeLength.outlP2A : EncodeLength.Statement (.outlP2A) := ⟨.inl rfl, fun h => by cases h⟩
theorem EncodeLength.anlP1Imm (data : Byte) : EncodeLength.Statement (.anlP1Imm data) := ⟨.inr rfl, fun _ => rfl⟩
theorem EncodeLength.anlP2Imm (data : Byte) : EncodeLength.Statement (.anlP2Imm data) := ⟨.inr rfl, fun _ => rfl⟩
theorem EncodeLength.orlP1Imm (data : Byte) : EncodeLength.Statement (.orlP1Imm data) := ⟨.inr rfl, fun _ => rfl⟩
theorem EncodeLength.orlP2Imm (data : Byte) : EncodeLength.Statement (.orlP2Imm data) := ⟨.inr rfl, fun _ => rfl⟩
theorem EncodeLength.movxIndA (r : Fin 2) : EncodeLength.Statement (.movxIndA r) := ⟨.inl rfl, fun h => by cases h⟩
theorem EncodeLength.outlBusA : EncodeLength.Statement (.outlBusA) := ⟨.inl rfl, fun h => by cases h⟩
theorem EncodeLength.insABus : EncodeLength.Statement (.insABus) := ⟨.inl rfl, fun h => by cases h⟩
theorem EncodeLength.orlBusImm (data : Byte) : EncodeLength.Statement (.orlBusImm data) := ⟨.inr rfl, fun _ => rfl⟩
theorem EncodeLength.anlBusImm (data : Byte) : EncodeLength.Statement (.anlBusImm data) := ⟨.inr rfl, fun _ => rfl⟩
theorem EncodeLength.movdAPp (p : Nat) : EncodeLength.Statement (.movdAPp p) := ⟨.inl rfl, fun h => by cases h⟩
theorem EncodeLength.movdPpA (p : Nat) : EncodeLength.Statement (.movdPpA p) := ⟨.inl rfl, fun h => by cases h⟩
theorem EncodeLength.orldPpA (p : Nat) : EncodeLength.Statement (.orldPpA p) := ⟨.inl rfl, fun h => by cases h⟩
theorem EncodeLength.anldPpA (p : Nat) : EncodeLength.Statement (.anldPpA p) := ⟨.inl rfl, fun h => by cases h⟩
theorem EncodeLength.ent0Clk : EncodeLength.Statement (.ent0Clk) := ⟨.inl rfl, fun h => by cases h⟩
theorem EncodeLength.illegal01 : EncodeLength.Statement (.illegal01) := ⟨.inl rfl, fun h => by cases h⟩
theorem EncodeLength.illegal06 : EncodeLength.Statement (.illegal06) := ⟨.inl rfl, fun h => by cases h⟩
theorem EncodeLength.illegal0B : EncodeLength.Statement (.illegal0B) := ⟨.inl rfl, fun h => by cases h⟩
theorem EncodeLength.illegal22 : EncodeLength.Statement (.illegal22) := ⟨.inl rfl, fun h => by cases h⟩
theorem EncodeLength.illegal33 : EncodeLength.Statement (.illegal33) := ⟨.inl rfl, fun h => by cases h⟩
theorem EncodeLength.illegal38 : EncodeLength.Statement (.illegal38) := ⟨.inl rfl, fun h => by cases h⟩
theorem EncodeLength.illegal3B : EncodeLength.Statement (.illegal3B) := ⟨.inl rfl, fun h => by cases h⟩
theorem EncodeLength.illegal63 : EncodeLength.Statement (.illegal63) := ⟨.inl rfl, fun h => by cases h⟩
theorem EncodeLength.illegal66 : EncodeLength.Statement (.illegal66) := ⟨.inl rfl, fun h => by cases h⟩
theorem EncodeLength.illegal73 : EncodeLength.Statement (.illegal73) := ⟨.inl rfl, fun h => by cases h⟩
theorem EncodeLength.illegal82 : EncodeLength.Statement (.illegal82) := ⟨.inl rfl, fun h => by cases h⟩
theorem EncodeLength.illegal87 : EncodeLength.Statement (.illegal87) := ⟨.inl rfl, fun h => by cases h⟩
theorem EncodeLength.illegal8B : EncodeLength.Statement (.illegal8B) := ⟨.inl rfl, fun h => by cases h⟩
theorem EncodeLength.illegal9B : EncodeLength.Statement (.illegal9B) := ⟨.inl rfl, fun h => by cases h⟩
theorem EncodeLength.illegalA2 : EncodeLength.Statement (.illegalA2) := ⟨.inl rfl, fun h => by cases h⟩
theorem EncodeLength.illegalA6 : EncodeLength.Statement (.illegalA6) := ⟨.inl rfl, fun h => by cases h⟩
theorem EncodeLength.illegalB7 : EncodeLength.Statement (.illegalB7) := ⟨.inl rfl, fun h => by cases h⟩
theorem EncodeLength.illegalC0 : EncodeLength.Statement (.illegalC0) := ⟨.inl rfl, fun h => by cases h⟩
theorem EncodeLength.illegalC1 : EncodeLength.Statement (.illegalC1) := ⟨.inl rfl, fun h => by cases h⟩
theorem EncodeLength.illegalC2 : EncodeLength.Statement (.illegalC2) := ⟨.inl rfl, fun h => by cases h⟩
theorem EncodeLength.illegalC3 : EncodeLength.Statement (.illegalC3) := ⟨.inl rfl, fun h => by cases h⟩
theorem EncodeLength.illegalD6 : EncodeLength.Statement (.illegalD6) := ⟨.inl rfl, fun h => by cases h⟩
theorem EncodeLength.illegalE0 : EncodeLength.Statement (.illegalE0) := ⟨.inl rfl, fun h => by cases h⟩
theorem EncodeLength.illegalE1 : EncodeLength.Statement (.illegalE1) := ⟨.inl rfl, fun h => by cases h⟩
theorem EncodeLength.illegalE2 : EncodeLength.Statement (.illegalE2) := ⟨.inl rfl, fun h => by cases h⟩
theorem EncodeLength.illegalF3 : EncodeLength.Statement (.illegalF3) := ⟨.inl rfl, fun h => by cases h⟩

end Sys2Proof.Laws
end

