-- ==== Sys2Proof/Laws/Values.lean ====
section
/-! SUPPORT. What the address and stack-entry computations are as numbers, and the principle that a property of all
opcode bytes may be shown byte by byte. -/

namespace Sys2Proof.Machine

variable (s : State)

/-! ## Concatenations as numbers -/

theorem append_toNat {m n : Nat} (x : BitVec m) (y : BitVec n) : (x ++ y).toNat = x.toNat * 2 ^ n + y.toNat := by
  rw [BitVec.toNat_append, ← Nat.shiftLeft_add_eq_or_of_lt y.isLt, Nat.shiftLeft_eq]

/-- The page of `a` with the low byte `lo` (R200). -/
theorem inPage_toNat (a : Addr) (lo : Byte) : (inPage a lo).toNat = a.toNat / 256 * 256 + lo.toNat := by
  have := a.isLt
  simp only [inPage, append_toNat, BitVec.extractLsb'_toNat, Nat.shiftRight_eq_div_pow]
  omega

/-- R25, R26: an address is held modulo 2048 inside a handler and modulo 4096 outside. -/
theorem maskPc_toNat (irq : IrqState) (v : Addr) :
    (maskPc irq v).toNat = v.toNat % (if irq = .idle then 4096 else 2048) := by
  unfold maskPc
  split_ifs
  · exact (Nat.mod_eq_of_lt v.isLt).symm
  · rw [BitVec.toNat_and]
    exact Nat.and_two_pow_sub_one_eq_mod v.toNat 11

/-- The target of JMP and CALL (R95). -/
theorem State.bankTarget_toNat (h : BitVec 3) (a : Byte) :
    (s.bankTarget h a).toNat = 2048 * s.a11.toNat + 256 * h.toNat + a.toNat := by
  simp only [State.bankTarget, append_toNat, BitVec.toNat_ofBool]
  omega

/-- The saved flags (R34). -/
theorem State.flagsNibble_toNat : s.flagsNibble.toNat = flagsNumber s := by
  simp only [State.flagsNibble, flagsNumber, append_toNat, BitVec.toNat_ofBool]
  omega

/-- The high byte of a stack entry (R34, R67). -/
theorem entryHigh_toNat (ret : Addr) :
    (s.flagsNibble ++ ret.extractLsb' 8 4).toNat = 16 * flagsNumber s + ret.toNat / 256 := by
  have := ret.isLt
  simp only [append_toNat, State.flagsNibble_toNat, BitVec.extractLsb'_toNat, Nat.shiftRight_eq_div_pow]
  omega

/-! ## What a pop reads back from an entry (R35) -/

theorem entryAddr (f : BitVec 4) (ret : Addr) :
    (f ++ ret.extractLsb' 8 4).extractLsb' 0 4 ++ ret.extractLsb' 0 8 = ret := by
  apply BitVec.eq_of_toNat_eq
  have := ret.isLt
  simp only [append_toNat, BitVec.extractLsb'_toNat, Nat.shiftRight_eq_div_pow]
  omega

theorem entryFlags (f : BitVec 4) (ret : Addr) : (f ++ ret.extractLsb' 8 4).extractLsb' 4 4 = f := by
  apply BitVec.eq_of_toNat_eq
  have := ret.isLt
  have := f.isLt
  simp only [append_toNat, BitVec.extractLsb'_toNat, Nat.shiftRight_eq_div_pow]
  omega

/-! ## All opcode bytes -/

/-- A property of every byte, shown for 0 to 255. -/
theorem byte_cases {P : Byte → Prop} (h : ∀ n, n < 256 → P (BitVec.ofNat 8 n)) (op : Byte) : P op := by
  simpa using h op.toNat op.isLt

end Sys2Proof.Machine
end

