-- ==== Sys2Proof/Tests/Slice0.lean ====
section
/-! SUPPORT. The model's own tests: ill-formed terms refused, every constructor's decoding from a word written out bit
by bit, the spec's worked vectors (`spec/95_test_vectors.md`, V<n>, and the examples of the rules), and witnesses that
meet the hypotheses of the obligations. Every expected value is the spec's. -/

namespace Sys2Proof.Machine.Tests

/-! ## Well-formedness: each check refuses an ill-formed term -/

theorem test_wf_refuses_port3 : (Instr.movdAPp 3).wf = false := by decide
theorem test_wf_refuses_port8 : (Instr.movdPpA 8).wf = false := by decide
theorem test_wf_refuses_orld_port2 : (Instr.orldPpA 2).wf = false := by decide
theorem test_wf_refuses_anld_port9 : (Instr.anldPpA 9).wf = false := by decide
theorem test_wf_accepts_ports : [4, 5, 6, 7].all (fun p => (Instr.movdAPp p).wf) = true := by decide

/-! ## Decoding: one word per constructor, written from the encodings of the instruction rules (R91) -/

theorem test_decode_arithmetic :
    [[0b01101101#8],
      [0b01100001#8],
      [0b00000011#8, 0b10100101#8],
      [0b01111101#8],
      [0b01110001#8],
      [0b00010011#8, 0b10100101#8],
      [0b01010111#8]].map decode =
    [.ok (.addAR 5) [],
      .ok (.addAInd 1) [],
      .ok (.addAImm 0xA5) [],
      .ok (.addcAR 5) [],
      .ok (.addcAInd 1) [],
      .ok (.addcAImm 0xA5) [],
      .ok .daA []] := by
  decide

theorem test_decode_logic :
    [[0b01011101#8],
      [0b01010001#8],
      [0b01010011#8, 0b10100101#8],
      [0b01001101#8],
      [0b01000001#8],
      [0b01000011#8, 0b10100101#8],
      [0b11011101#8],
      [0b11010001#8],
      [0b11010011#8, 0b10100101#8],
      [0b00100111#8],
      [0b00110111#8]].map decode =
    [.ok (.anlAR 5) [],
      .ok (.anlAInd 1) [],
      .ok (.anlAImm 0xA5) [],
      .ok (.orlAR 5) [],
      .ok (.orlAInd 1) [],
      .ok (.orlAImm 0xA5) [],
      .ok (.xrlAR 5) [],
      .ok (.xrlAInd 1) [],
      .ok (.xrlAImm 0xA5) [],
      .ok .clrA [],
      .ok .cplA []] := by
  decide

theorem test_decode_move :
    [[0b11111101#8],
      [0b11110001#8],
      [0b00100011#8, 0b10100101#8],
      [0b10101101#8],
      [0b10100001#8],
      [0b10111101#8, 0b10100101#8],
      [0b10110001#8, 0b10100101#8],
      [0b00101101#8],
      [0b00100001#8],
      [0b00110001#8],
      [0b01000111#8],
      [0b10100011#8],
      [0b11100011#8],
      [0b10000001#8]].map decode =
    [.ok (.movAR 5) [],
      .ok (.movAInd 1) [],
      .ok (.movAImm 0xA5) [],
      .ok (.movRA 5) [],
      .ok (.movIndA 1) [],
      .ok (.movRImm 5 0xA5) [],
      .ok (.movIndImm 1 0xA5) [],
      .ok (.xchAR 5) [],
      .ok (.xchAInd 1) [],
      .ok (.xchdAInd 1) [],
      .ok .swapA [],
      .ok .movpAAtA [],
      .ok .movp3AAtA [],
      .ok (.movxAInd 1) []] := by
  decide

theorem test_decode_inc_rotate :
    [[0b00010111#8],
      [0b00000111#8],
      [0b00011101#8],
      [0b11001101#8],
      [0b00010001#8],
      [0b11100111#8],
      [0b11110111#8],
      [0b01110111#8],
      [0b01100111#8]].map decode =
    [.ok .incA [],
      .ok .decA [],
      .ok (.incR 5) [],
      .ok (.decR 5) [],
      .ok (.incInd 1) [],
      .ok .rlA [],
      .ok .rlcA [],
      .ok .rrA [],
      .ok .rrcA []] := by
  decide

theorem test_decode_branch :
    [[0b11010010#8, 0b10100101#8],
      [0b11110110#8, 0b10100101#8],
      [0b11100110#8, 0b10100101#8],
      [0b11000110#8, 0b10100101#8],
      [0b10010110#8, 0b10100101#8],
      [0b10110110#8, 0b10100101#8],
      [0b01110110#8, 0b10100101#8],
      [0b00110110#8, 0b10100101#8],
      [0b00100110#8, 0b10100101#8],
      [0b01010110#8, 0b10100101#8],
      [0b01000110#8, 0b10100101#8],
      [0b10000110#8, 0b10100101#8],
      [0b00010110#8, 0b10100101#8],
      [0b11101101#8, 0b10100101#8],
      [0b01100100#8, 0b10100101#8],
      [0b10110011#8],
      [0b01110100#8, 0b10100101#8],
      [0b10000011#8],
      [0b10010011#8]].map decode =
    [.ok (.jbb 6 0xA5) [],
      .ok (.jc 0xA5) [],
      .ok (.jnc 0xA5) [],
      .ok (.jz 0xA5) [],
      .ok (.jnz 0xA5) [],
      .ok (.jf0 0xA5) [],
      .ok (.jf1 0xA5) [],
      .ok (.jt0 0xA5) [],
      .ok (.jnt0 0xA5) [],
      .ok (.jt1 0xA5) [],
      .ok (.jnt1 0xA5) [],
      .ok (.jni 0xA5) [],
      .ok (.jtf 0xA5) [],
      .ok (.djnzR 5 0xA5) [],
      .ok (.jmp 0b011 0xA5) [],
      .ok .jmppAtA [],
      .ok (.call 0b011 0xA5) [],
      .ok .ret [],
      .ok .retr []] := by
  decide

theorem test_decode_control :
    [[0b10010111#8],
      [0b10100111#8],
      [0b10000101#8],
      [0b10010101#8],
      [0b10100101#8],
      [0b10110101#8],
      [0b11000101#8],
      [0b11010101#8],
      [0b11100101#8],
      [0b11110101#8],
      [0b11000111#8],
      [0b11010111#8],
      [0b00000101#8],
      [0b00010101#8],
      [0b00100101#8],
      [0b00110101#8],
      [0b00000000#8]].map decode =
    [.ok .clrC [],
      .ok .cplC [],
      .ok .clrF0 [],
      .ok .cplF0 [],
      .ok .clrF1 [],
      .ok .cplF1 [],
      .ok .selRB0 [],
      .ok .selRB1 [],
      .ok .selMB0 [],
      .ok .selMB1 [],
      .ok .movAPsw [],
      .ok .movPswA [],
      .ok .enI [],
      .ok .disI [],
      .ok .enTcnti [],
      .ok .disTcnti [],
      .ok .nop []] := by
  decide

theorem test_decode_timer_io :
    [[0b01010101#8],
      [0b01000101#8],
      [0b01100101#8],
      [0b01000010#8],
      [0b01100010#8],
      [0b00001001#8],
      [0b00001010#8],
      [0b00111001#8],
      [0b00111010#8],
      [0b10011001#8, 0b10100101#8],
      [0b10011010#8, 0b10100101#8],
      [0b10001001#8, 0b10100101#8],
      [0b10001010#8, 0b10100101#8]].map decode =
    [.ok .strtT [],
      .ok .strtCnt [],
      .ok .stopTcnt [],
      .ok .movAT [],
      .ok .movTA [],
      .ok .inAP1 [],
      .ok .inAP2 [],
      .ok .outlP1A [],
      .ok .outlP2A [],
      .ok (.anlP1Imm 0xA5) [],
      .ok (.anlP2Imm 0xA5) [],
      .ok (.orlP1Imm 0xA5) [],
      .ok (.orlP2Imm 0xA5) []] := by
  decide

theorem test_decode_unsupported :
    [[0b10010001#8],
      [0b00000010#8],
      [0b00001000#8],
      [0b10001000#8, 0b10100101#8],
      [0b10011000#8, 0b10100101#8],
      [0b00001110#8],
      [0b00111110#8],
      [0b10001110#8],
      [0b10011110#8],
      [0b01110101#8]].map decode =
    [.ok (.movxIndA 1) [],
      .ok .outlBusA [],
      .ok .insABus [],
      .ok (.orlBusImm 0xA5) [],
      .ok (.anlBusImm 0xA5) [],
      .ok (.movdAPp 6) [],
      .ok (.movdPpA 6) [],
      .ok (.orldPpA 6) [],
      .ok (.anldPpA 6) [],
      .ok .ent0Clk []] := by
  decide

theorem test_decode_illegal :
    [[0b00000001#8],
      [0b00000110#8],
      [0b00001011#8],
      [0b00100010#8],
      [0b00110011#8],
      [0b00111000#8],
      [0b00111011#8],
      [0b01100011#8],
      [0b01100110#8],
      [0b01110011#8],
      [0b10000010#8],
      [0b10000111#8],
      [0b10001011#8],
      [0b10011011#8],
      [0b10100010#8],
      [0b10100110#8],
      [0b10110111#8],
      [0b11000000#8],
      [0b11000001#8],
      [0b11000010#8],
      [0b11000011#8],
      [0b11010110#8],
      [0b11100000#8],
      [0b11100001#8],
      [0b11100010#8],
      [0b11110011#8]].map decode =
    [.ok .illegal01 [],
      .ok .illegal06 [],
      .ok .illegal0B [],
      .ok .illegal22 [],
      .ok .illegal33 [],
      .ok .illegal38 [],
      .ok .illegal3B [],
      .ok .illegal63 [],
      .ok .illegal66 [],
      .ok .illegal73 [],
      .ok .illegal82 [],
      .ok .illegal87 [],
      .ok .illegal8B [],
      .ok .illegal9B [],
      .ok .illegalA2 [],
      .ok .illegalA6 [],
      .ok .illegalB7 [],
      .ok .illegalC0 [],
      .ok .illegalC1 [],
      .ok .illegalC2 [],
      .ok .illegalC3 [],
      .ok .illegalD6 [],
      .ok .illegalE0 [],
      .ok .illegalE1 [],
      .ok .illegalE2 [],
      .ok .illegalF3 []] := by
  decide

theorem test_decode_nothing : decode [] = .rejected .noOpcode := by decide
theorem test_decode_short : decode [0x03] = .rejected (.noOperand 0x03) := by decide
theorem test_table_word : decodeTableWord 16 0x4664 = some (.jmp 3 0x46) := by decide

/-- The lengths R93 lists. -/
theorem test_two_byte_opcodes :
    (List.range 256).filter (fun op => opLength (BitVec.ofNat 8 op) == 2) =
      [0x03, 0x04, 0x12, 0x13, 0x14, 0x16, 0x23, 0x24, 0x26, 0x32, 0x34, 0x36, 0x43, 0x44, 0x46, 0x52, 0x53, 0x54,
        0x56, 0x64, 0x72, 0x74, 0x76, 0x84, 0x86, 0x88, 0x89, 0x8A, 0x92, 0x94, 0x96, 0x98, 0x99, 0x9A, 0xA4, 0xB0,
        0xB1, 0xB2, 0xB4, 0xB6, 0xB8, 0xB9, 0xBA, 0xBB, 0xBC, 0xBD, 0xBE, 0xBF, 0xC4, 0xC6, 0xD2, 0xD3, 0xD4, 0xE4,
        0xE6, 0xE8, 0xE9, 0xEA, 0xEB, 0xEC, 0xED, 0xEE, 0xEF, 0xF2, 0xF4, 0xF6] := by
  decide

/-! ## One step on a small state -/

/-- A data store with the listed bytes. -/
def mem (cells : List Host.Cell) : Memory := cells.foldl (fun m c => Memory.write m c.1 c.2) []

/-- The reset state with `pc` at `a` and the bytes `code` in the program store from there on. -/
def boot (a : Nat) (code : List Byte) : State :=
  { State.reset with pc := BitVec.ofNat 12 a, prog := Memory.ofBytes a code }

/-- One step answers a next state that passes the check `f`. -/
def after (s : State) (f : State → Bool) : Bool :=
  match step s with
  | .next t => f t
  | .fault _ => false
  | .refused _ => false

/-- One step is refused for this reason. -/
def refusedWith (s : State) (r : Refusal) : Bool :=
  match step s with
  | .next _ => false
  | .fault _ => false
  | .refused r' => r' == r

/-- Vector V1. -/
theorem test_add_reg : after { boot 0 [0x68] with acc := 0x7F, data := mem [(0, 0x01)] }
    (fun t => t.acc == 0x80 && !t.cy && t.ac && t.psw == 0x48 && t.pc == 1 && t.cycles == 1) = true := by decide
/-- Vector V2. -/
theorem test_add_wraps : after { boot 0 [0x68] with acc := 0xFF, data := mem [(0, 0x01)] }
    (fun t => t.acc == 0 && t.psw == 0xC8) = true := by decide
/-- Vector V4: stale flags are cleared, the carry-in is ignored. -/
theorem test_add_imm_stale : after { boot 0 [0x03, 0x00] with acc := 0x0F, cy := true, ac := true }
    (fun t => t.acc == 0x0F && !t.cy && !t.ac && t.pc == 2 && t.cycles == 2) = true := by decide
/-- Vector V9. -/
theorem test_add_ind : after { boot 0 [0x61] with acc := 0x10, cy := true, data := mem [(1, 0xA5), (0x25, 0x22)] }
    (fun t => t.acc == 0x32 && !t.cy && !t.ac) = true := by decide
/-- Rule R124, corner cases. -/
theorem test_addc_reg : after { boot 0 [0x78] with acc := 0xFF, cy := true, data := mem [(0, 0xFF)] }
    (fun t => t.acc == 0xFF && t.cy && t.ac) = true := by decide
/-- Vector V8: the pointer is taken modulo 128. -/
theorem test_addc_ind : after { boot 0 [0x71] with acc := 0x10, cy := true, data := mem [(1, 0xA5), (0x25, 0x22)] }
    (fun t => t.acc == 0x33 && !t.cy && !t.ac) = true := by decide
/-- Vector V6. -/
theorem test_addc_imm : after { boot 0 [0x13, 0x00] with acc := 0x0F, cy := true }
    (fun t => t.acc == 0x10 && !t.cy && t.ac) = true := by decide
/-- Vector V15. -/
theorem test_da_wraps : after { boot 0 [0x57] with acc := 0xFA } (fun t => t.acc == 0x60 && t.cy && !t.ac) = true := by
  decide
/-- Vector V19. -/
theorem test_da_aux : after { boot 0 [0x57] with acc := 0x12, ac := true } (fun t => t.acc == 0x18 && !t.cy && t.ac) = true := by
  decide
/-- Vector V22. -/
theorem test_anl_reg : after { boot 0 [0x5B] with acc := 0xF0, cy := true, ac := true, data := mem [(3, 0x3C)] }
    (fun t => t.acc == 0x30 && t.psw == 0xC8 && t.cycles == 1) = true := by decide
/-- Vector V30. -/
theorem test_anl_ind : after { boot 0 [0x50] with acc := 0xFF, data := mem [(0, 0x90), (0x10, 0x0F)] }
    (fun t => t.acc == 0x0F && t.readData 0x10 == 0x0F) = true := by decide
/-- Vector V25. -/
theorem test_anl_imm : after { boot 0 [0x53, 0x0F] with acc := 0xA5 } (fun t => t.acc == 0x05 && t.pc == 2) = true := by
  decide
/-- Vector V23. -/
theorem test_orl_reg : after { boot 0 [0x4B] with acc := 0xF0, cy := true, ac := true, data := mem [(3, 0x3C)] }
    (fun t => t.acc == 0xFC && t.psw == 0xC8) = true := by decide
/-- Rule R144, example. -/
theorem test_orl_ind : after { boot 0 [0x41] with acc := 0x01, data := mem [(1, 0x7F), (0x7F, 0x80)] }
    (fun t => t.acc == 0x81) = true := by decide
/-- Vector V26. -/
theorem test_orl_imm : after { boot 0 [0x43, 0x0F] with acc := 0xA5 } (fun t => t.acc == 0xAF && t.cycles == 2) = true := by
  decide
/-- Vector V24. -/
theorem test_xrl_reg : after { boot 0 [0xDB] with acc := 0xF0, cy := true, ac := true, data := mem [(3, 0x3C)] }
    (fun t => t.acc == 0xCC && t.psw == 0xC8) = true := by decide
/-- Rule R147, example. -/
theorem test_xrl_ind : after { boot 0 [0xD0] with acc := 0x55, data := mem [(0, 0x20), (0x20, 0x55)] }
    (fun t => t.acc == 0x00) = true := by decide
/-- Vector V27. -/
theorem test_xrl_imm : after { boot 0 [0xD3, 0xFF] with acc := 0xA5 } (fun t => t.acc == 0x5A) = true := by decide
/-- Rule R149, example. -/
theorem test_clr_a : after { boot 0 [0x27] with acc := 0xA7, cy := true } (fun t => t.acc == 0 && t.cy) = true := by
  decide
/-- Vector V28. -/
theorem test_cpl_a : after { boot 0 [0x37] with acc := 0xA5 } (fun t => t.acc == 0x5A) = true := by decide

/-- Rule R160, example: the register is read from bank `bs`. -/
theorem test_mov_a_reg : after { boot 0 [0xFA] with bs := true, data := mem [(2, 0x11), (26, 0x5A)] }
    (fun t => t.acc == 0x5A) = true := by decide
/-- Rule R161, corner case: bit 7 of the pointer is ignored. -/
theorem test_mov_a_ind : after { boot 0 [0xF1] with data := mem [(1, 0xFF), (0x7F, 0x42)] } (fun t => t.acc == 0x42) = true := by
  decide
/-- Vector V44: the operand fetch wraps modulo 4096. -/
theorem test_mov_a_imm_wraps :
    after { boot 0xFFF [0x23] with prog := mem [(0, 0x99), (0xFFF, 0x23)] }
      (fun t => t.acc == 0x99 && t.pc == 1 && t.cycles == 2) = true := by decide
/-- Rule R163, example. -/
theorem test_mov_reg_a : after { boot 0 [0xAD] with acc := 0x11 } (fun t => t.data == [(5, 0x11)]) = true := by decide
/-- Vector V37: the pointer register overwrites itself. -/
theorem test_mov_ind_a : after { boot 0 [0xA0] with acc := 0x77 } (fun t => t.data == [(0, 0x77)]) = true := by decide
/-- Vector V38. -/
theorem test_mov_reg_imm : after (boot 0 [0xBF, 0x42]) (fun t => t.data == [(7, 0x42)] && t.pc == 2 && t.cycles == 2) = true := by
  decide
/-- Vector V36. -/
theorem test_mov_ind_imm : after { boot 0 [0xB0, 0x5A] with data := mem [(0, 0xFF)] }
    (fun t => t.readData 0x7F == 0x5A && t.readData 0 == 0xFF && t.pc == 2) = true := by decide
/-- Vector V34: bank 1. -/
theorem test_xch_reg : after { boot 0 [0x2D] with acc := 0x12, bs := true, data := mem [(5, 0x34), (0x1D, 0x56)] }
    (fun t => t.acc == 0x56 && t.readData 0x1D == 0x12 && t.readData 5 == 0x34) = true := by decide
/-- Vector V31. -/
theorem test_xch_ind : after { boot 0 [0x20] with acc := 0x12, data := mem [(0, 0x20), (0x20, 0xAB)] }
    (fun t => t.acc == 0xAB && t.readData 0x20 == 0x12 && t.readData 0 == 0x20) = true := by decide
/-- Vector V32. -/
theorem test_xchd_ind : after { boot 0 [0x30] with acc := 0x12, data := mem [(0, 0x20), (0x20, 0xAB)] }
    (fun t => t.acc == 0x1B && t.readData 0x20 == 0xA2) = true := by decide
/-- Vector V35. -/
theorem test_swap : after { boot 0 [0x47] with acc := 0x1E } (fun t => t.acc == 0xE1) = true := by decide
/-- Vector V39: the page of the address after the opcode. -/
theorem test_movp : after { boot 0x1FF [0xA3] with acc := 0x10, prog := mem [(0x110, 0xBB), (0x1FF, 0xA3), (0x210, 0xAA)] }
    (fun t => t.acc == 0xAA && t.pc == 0x200 && t.cycles == 2) = true := by decide
/-- Vector V42: page 3 of the lower bank always. -/
theorem test_movp3 : after { boot 0x950 [0xE3] with acc := 0x10, prog := mem [(0x310, 0xCC), (0x950, 0xE3), (0xB10, 0xDD)] }
    (fun t => t.acc == 0xCC && t.pc == 0x951) = true := by decide
/-- Vector V43: all 8 bits of the register are the address. -/
theorem test_movx_read :
    after { boot 0 [0x81] with data := mem [(1, 0xC8)], inputs := { State.reset.inputs with ext := [((0xC8, 0), 0x37)] } }
      (fun t => t.acc == 0x37 && t.cycles == 2) = true := by decide

/-- Vectors V45 and V46. -/
theorem test_inc_a_wraps : after { boot 0 [0x17] with acc := 0xFF } (fun t => t.acc == 0 && !t.cy) = true := by decide
theorem test_dec_a_wraps : after (boot 0 [0x07]) (fun t => t.acc == 0xFF && !t.cy) = true := by decide
/-- Rule R182, example. -/
theorem test_inc_reg : after { boot 0 [0x18] with bs := true, data := mem [(24, 0x7F)] } (fun t => t.data == [(24, 0x80)]) = true := by
  decide
/-- Vector V48. -/
theorem test_dec_reg : after (boot 0 [0xCA]) (fun t => t.data == [(2, 0xFF)]) = true := by decide
/-- Rule R184, corner case: the pointer register addresses itself. -/
theorem test_inc_ind : after { boot 0 [0x10] with data := mem [(0, 0x80)] } (fun t => t.data == [(0, 0x81)]) = true := by
  decide
/-- Vectors V50 to V53, columns 81,0 and 01,0 and 80,0. -/
theorem test_rl : after { boot 0 [0xE7] with acc := 0x81 } (fun t => t.acc == 0x03 && !t.cy) = true := by decide
theorem test_rlc : after { boot 0 [0xF7] with acc := 0x81 } (fun t => t.acc == 0x02 && t.cy) = true := by decide
theorem test_rr : after { boot 0 [0x77] with acc := 0x81 } (fun t => t.acc == 0xC0 && !t.cy) = true := by decide
theorem test_rrc : after { boot 0 [0x67] with acc := 0x81 } (fun t => t.acc == 0x40 && t.cy) = true := by decide
theorem test_rlc_carry : after { boot 0 [0xF7] with acc := 0x80, cy := true } (fun t => t.acc == 0x01 && t.cy) = true := by
  decide
theorem test_rrc_carry : after { boot 0 [0x67] with acc := 0x80, cy := true } (fun t => t.acc == 0xC0 && !t.cy) = true := by
  decide

/-- Vector V60: only JB5 jumps. -/
theorem test_jbb : [0x12, 0x32, 0x52, 0x72, 0x92, 0xB2, 0xD2, 0xF2].map (fun op =>
      after { boot 0 [op, 0x30] with acc := 0x20 } (fun t => t.pc == 0x030)) =
    [false, false, false, false, false, true, false, false] := by decide
/-- Vector V61. -/
theorem test_jc : after { boot 0 [0xF6, 0x80] with cy := true } (fun t => t.pc == 0x080 && t.cy) = true := by decide
theorem test_jnc : after { boot 0 [0xE6, 0x80] with cy := true } (fun t => t.pc == 0x002) = true := by decide
/-- Vector V57: the page of the operand byte. -/
theorem test_jz_page : after { boot 0x1FF [0xC6, 0x40] with acc := 0 } (fun t => t.pc == 0x240 && t.cycles == 2) = true := by
  decide
/-- Vector V59: bit 11 comes from `pc`, not from `a11`. -/
theorem test_jz_high : after { boot 0x9FE [0xC6, 0x40] with a11 := true, a11Shadow := true } (fun t => t.pc == 0x940) = true := by
  decide
/-- Vector V65. -/
theorem test_jnz : after { boot 0 [0x96, 0x80] with acc := 1 } (fun t => t.pc == 0x080) = true := by decide
/-- Vector V62. -/
theorem test_jf0 : after { boot 0 [0xB6, 0x80] with f0 := true } (fun t => t.pc == 0x080) = true := by decide
theorem test_jf1 : after { boot 0 [0x76, 0x80] with f0 := true } (fun t => t.pc == 0x002) = true := by decide

/-- Input samples: `INT`, T0, T1 by cycle. -/
def lines (i t0 t1 : List (Nat × Bool)) : Inputs := { State.reset.inputs with intIn := i, t0In := t0, t1In := t1 }

/-- Vector V63. -/
theorem test_jt0 : after { boot 0 [0x36, 0x80] with inputs := lines [] [(0, true)] [] } (fun t => t.pc == 0x080) = true := by
  decide
theorem test_jnt0 : after { boot 0 [0x26, 0x80] with inputs := lines [] [(0, true)] [] } (fun t => t.pc == 0x002) = true := by
  decide
/-- Vector V64. -/
theorem test_jt1 : after { boot 0 [0x56, 0x80] with inputs := lines [] [] [(0, false)] } (fun t => t.pc == 0x002) = true := by
  decide
theorem test_jnt1 : after { boot 0 [0x46, 0x80] with inputs := lines [] [] [(0, false)] } (fun t => t.pc == 0x080) = true := by
  decide
/-- Vectors V66 and V67. -/
theorem test_jni_asserted : after { boot 0 [0x86, 0x80] with inputs := lines [(0, true)] [] [] }
    (fun t => t.pc == 0x080 && !t.irqLastPollResult) = true := by decide
theorem test_jni_falls_through : after { boot 0 [0x86, 0x80] with inputs := lines [(0, false)] [] [] }
    (fun t => t.pc == 0x002 && t.irqLastPollResult) = true := by decide
/-- Vector V68. -/
theorem test_jtf : after { boot 0 [0x16, 0x80] with timerFlag := true } (fun t => t.pc == 0x080 && !t.timerFlag) = true := by
  decide
/-- Vectors V70 and V71. -/
theorem test_djnz_ends : after { boot 0 [0xEB, 0x10] with data := mem [(3, 1)] } (fun t => t.data == [] && t.pc == 0x002) = true := by
  decide
theorem test_djnz_wraps : after (boot 0 [0xEB, 0x10]) (fun t => t.data == [(3, 0xFF)] && t.pc == 0x010) = true := by
  decide
/-- Vectors V74 and V75. -/
theorem test_jmp_high : after { boot 0 [0x64, 0x45] with a11 := true, a11Shadow := true } (fun t => t.pc == 0xB45) = true := by
  decide
theorem test_jmp_low : after (boot 0x900 [0xE4, 0xFF]) (fun t => t.pc == 0x7FF) = true := by decide
/-- Vector V77. -/
theorem test_jmpp : after { boot 0x2FF [0xB3] with acc := 5, prog := mem [(0x205, 0x66), (0x2FF, 0xB3), (0x305, 0x77)] }
    (fun t => t.pc == 0x377 && t.cycles == 2) = true := by decide
/-- Vectors V80 and V81. -/
theorem test_call : after { boot 0x123 [0x94, 0x56] with cy := true, f0 := true }
    (fun t => t.pc == 0x456 && t.data == [(8, 0x25), (9, 0xA1)] && t.psw == 0xA9) = true := by decide
theorem test_call_wraps : after { boot 0x123 [0x94, 0x56] with cy := true, f0 := true, sp := 7 }
    (fun t => t.sp == 0 && t.data == [(22, 0x25), (23, 0xA1)]) = true := by decide
/-- Vectors V83 and V89. -/
theorem test_ret : after { boot 0x050 [0x83] with sp := 1, data := mem [(8, 0x25), (9, 0xF9)] }
    (fun t => t.pc == 0x925 && t.psw == 0x08 && !t.a11) = true := by decide
theorem test_ret_in_handler :
    after { boot 0x050 [0x83] with sp := 1, data := mem [(8, 0x25), (9, 0xF9)], irqInProgress := .external, a11Shadow := true }
      (fun t => t.pc == 0x125 && t.irqInProgress == .external && !t.a11) = true := by decide
/-- Vectors V90 and V95. -/
theorem test_retr : after { boot 0x050 [0x93] with
      sp := 1, data := mem [(8, 0x25), (9, 0xF9)], irqInProgress := .external, a11Shadow := true }
    (fun t => t.pc == 0x925 && t.psw == 0xF8 && t.a11 && t.irqInProgress == .idle && t.cycles == 2) = true := by
  decide
theorem test_retr_idle : after { boot 0x050 [0x93] with sp := 1, data := mem [(8, 0x25), (9, 0x51)], cy := true, bs := true }
    (fun t => t.pc == 0x125 && t.psw == 0x58 && !t.a11) = true := by decide

/-- Vectors V96 to V98. -/
theorem test_clr_c : after { boot 0 [0x97] with cy := true } (fun t => !t.cy) = true := by decide
theorem test_cpl_c : after (boot 0 [0xA7]) (fun t => t.cy) = true := by decide
theorem test_clr_f0 : after { boot 0 [0x85] with f0 := true } (fun t => t.psw == 0x08) = true := by decide
theorem test_cpl_f0 : after (boot 0 [0x95]) (fun t => t.psw == 0x28) = true := by decide
theorem test_clr_f1 : after { boot 0 [0xA5] with f1 := true } (fun t => !t.f1) = true := by decide
theorem test_cpl_f1 : after (boot 0 [0xB5]) (fun t => t.f1 && t.psw == 0x08) = true := by decide
/-- Vectors V101 and V100. -/
theorem test_sel_rb0 : after { boot 0 [0xC5] with acc := 0x55, bs := true } (fun t => t.psw == 0x08 && t.acc == 0x55) = true := by
  decide
theorem test_sel_rb1 : after { boot 0 [0xD5] with acc := 0x55 } (fun t => t.psw == 0x18 && t.acc == 0x55) = true := by
  decide
/-- Vectors V99, V102 and V103. -/
theorem test_sel_mb0_handler : after { boot 0 [0xE5] with irqInProgress := .external, a11Shadow := true }
    (fun t => !t.a11 && !t.a11Shadow) = true := by decide
theorem test_sel_mb1 : after (boot 0 [0xF5]) (fun t => t.a11 && t.a11Shadow && t.pc == 1) = true := by decide
theorem test_sel_mb1_handler : after { boot 0 [0xF5] with irqInProgress := .external } (fun t => !t.a11 && t.a11Shadow) = true := by
  decide
/-- Vectors V104 and V106. -/
theorem test_mov_a_psw : after { boot 0 [0xC7] with cy := true, ac := true, f0 := true, bs := true, sp := 5 }
    (fun t => t.acc == 0xFD) = true := by decide
theorem test_mov_psw_a : after { boot 0 [0xD7] with acc := 0xB7 }
    (fun t => t.cy && !t.ac && t.f0 && t.bs && t.sp == 7 && t.psw == 0xBF) = true := by decide
/-- Vector V107: the interrupt is taken at the boundary of EN I; the saved bytes do not depend on the quirk. -/
theorem test_en_i : after { boot 0 [0x05] with inputs := lines [(1, true)] [] [] }
    (fun t => t.xirqEnabled && t.pc == 0x003 && t.sp == 1 && t.irqInProgress == .external && t.cycles == 3) = true := by
  decide
/-- Vectors V108, V119, V109 and V120. -/
theorem test_dis_i : after { boot 0 [0x15] with xirqEnabled := true, inputs := lines [(1, true)] [] [] }
    (fun t => !t.xirqEnabled && t.pc == 1 && t.irqInProgress == .idle && t.cycles == 1) = true := by decide
theorem test_en_tcnti : after { boot 0 [0x25] with mode := .timer, prescaler := 31, timerCounter := 0xFF }
    (fun t => t.pc == 0x007 && t.data == [(8, 1)] && t.timerFlag && !t.timerOverflow && t.prescaler == 2 && t.cycles == 3) =
    true := by decide
theorem test_dis_tcnti : after { boot 0 [0x35] with tirqEnabled := true, timerOverflow := true, irqInProgress := .external }
    (fun t => !t.tirqEnabled && !t.timerOverflow) = true := by decide
theorem test_dis_tcnti_wrap : after { boot 0 [0x35] with
      tirqEnabled := true, mode := .timer, prescaler := 31, timerCounter := 0xFF }
    (fun t => t.timerFlag && !t.timerOverflow && t.pc == 1 && t.irqInProgress == .idle && t.cycles == 1) = true := by
  decide
/-- Vector V110, the document's S7: an all-zero ROM. -/
theorem test_nop : after State.reset (fun t => t == { State.reset with pc := 1, cycles := 1 }) = true := by decide
/-- Vector V111, each of the 26 bytes of R104. -/
theorem test_illegal : [0x01, 0x06, 0x0B, 0x22, 0x33, 0x38, 0x3B, 0x63, 0x66, 0x73, 0x82, 0x87, 0x8B, 0x9B, 0xA2, 0xA6,
      0xB7, 0xC0, 0xC1, 0xC2, 0xC3, 0xD6, 0xE0, 0xE1, 0xE2, 0xF3].all (fun op =>
      after (boot 0x123 [op]) (fun t => t ==
        { boot 0x123 [op] with pc := 0x124, cycles := 1, trace := [.diag op 0x123] })) = true := by decide
/-- Vector V112: the cycle of an illegal opcode wraps the counter and the interrupt is taken. -/
theorem test_illegal_timer : after { boot 0x234 [0x0B] with
      mode := .timer, prescaler := 31, timerCounter := 0xFF, tirqEnabled := true }
    (fun t => t.trace == [.diag 0x0B 0x234] && t.data == [(8, 0x35), (9, 0x02)] && t.sp == 1 && t.pc == 0x007 &&
      t.irqInProgress == .timer && t.timerFlag && !t.timerOverflow && t.prescaler == 2 && t.cycles == 3) = true := by
  decide

/-- Vectors V113, V129, V143, V122, V123 and V124. -/
theorem test_strt_t : after { boot 0 [0x55] with prescaler := 17 } (fun t => t.mode == .timer && t.prescaler == 1) = true := by
  decide
theorem test_strt_cnt : after { boot 0 [0x45] with inputs := lines [] [] [(0, true), (1, false)] }
    (fun t => t.mode == .counter && t.t1History == 0b10 && t.timerCounter == 1) = true := by decide
theorem test_strt_cnt_again : after { boot 0 [0x45] with
      mode := .counter, t1History := 0b01, inputs := lines [] [] [(0, false), (1, false)] }
    (fun t => t.t1History == 0b10 && t.timerCounter == 1) = true := by decide
theorem test_stop_tcnt : after { boot 0 [0x65] with mode := .timer, prescaler := 5, timerCounter := 0x42 }
    (fun t => t.mode == .off && t.prescaler == 5 && t.timerCounter == 0x42) = true := by decide
theorem test_mov_a_t : after { boot 0 [0x42] with mode := .timer, prescaler := 5, timerCounter := 0x42 }
    (fun t => t.acc == 0x42 && t.prescaler == 6) = true := by decide
theorem test_mov_t_a : after { boot 0 [0x62] with
      mode := .timer, prescaler := 5, timerCounter := 0x42, acc := 0xFE, timerFlag := true }
    (fun t => t.timerCounter == 0xFE && t.prescaler == 6 && t.timerFlag) = true := by decide
/-- Vectors V145 to V150, and the examples of R267 and R268. -/
theorem test_outl_p1 : after { boot 0 [0x39] with acc := 0x5A } (fun t => t.p1 == 0x5A && t.trace == [.portOut .p1 0x5A]) = true := by
  decide
theorem test_outl_p2 : after { boot 0 [0x3A] with acc := 0x5A } (fun t => t.p2 == 0x5A && t.trace == [.portOut .p2 0x5A]) = true := by
  decide
theorem test_in_p1 :
    after { boot 0 [0x09] with p1 := 0xF0, inputs := { State.reset.inputs with port1 := [(0, 0x3C)] } }
      (fun t => t.acc == 0x30 && t.p1 == 0xF0 && t.cycles == 2) = true := by decide
theorem test_in_p2 : after { boot 0 [0x0A] with inputs := { State.reset.inputs with port2 := [(0, 0xA5)] } }
    (fun t => t.acc == 0xA5) = true := by decide
theorem test_anl_p1 : after { boot 0 [0x99, 0x3C] with p1 := 0xF0 } (fun t => t.p1 == 0x30 && t.trace == [.portOut .p1 0x30]) = true := by
  decide
theorem test_anl_p2 : after (boot 0 [0x9A, 0xFE]) (fun t => t.p2 == 0xFE && t.p1 == 0xFF && t.pc == 2) = true := by
  decide
theorem test_orl_p1 : after { boot 0 [0x89, 0x80] with p1 := 0x0F } (fun t => t.p1 == 0x8F && t.trace == [.portOut .p1 0x8F]) = true := by
  decide
theorem test_orl_p2 : after { boot 0 [0x8A, 0x30] with p2 := 0x0F } (fun t => t.p2 == 0x3F && t.trace == [.portOut .p2 0x3F]) = true := by
  decide
/-- Vector V126: each unsupported byte is refused with its opcode and address. -/
theorem test_unsupported : [0x90, 0x91, 0x02, 0x08, 0x88, 0x98, 0x0C, 0x0D, 0x0E, 0x0F, 0x3C, 0x3D, 0x3E, 0x3F, 0x8C,
      0x8D, 0x8E, 0x8F, 0x9C, 0x9D, 0x9E, 0x9F, 0x75].all (fun op =>
      refusedWith (boot 0x123 [op]) (.unsupported op 0x123)) = true := by decide

/-! ## Interrupts -/

/-- Vector V130. -/
theorem test_external_entry : after { boot 0x955 [0x00] with
      a11 := true, a11Shadow := true, xirqEnabled := true, cy := true, bs := true, sp := 2, inputs := lines [(1, true)] [] [] }
    (fun t => t.sp == 3 && !t.a11 && t.a11Shadow && t.pc == 0x003 && t.irqInProgress == .external && t.cy && t.bs &&
      t.cycles == 3) = true := by decide
/-- Vector V130, the saved bytes: a NOP is no poll, so both values of the quirk save the same. -/
theorem test_external_entry_saves (q : Bool) :
    ({ boot 0x956 [] with cy := true, bs := true, sp := 2 }.enterExternalWith q).data = [(12, 0x56), (13, 0x99)] := by
  revert q
  decide
/-- Vector V131: the external request wins and the timer's stays pending. -/
theorem test_external_first : after { boot 0 [0x00] with
      xirqEnabled := true, tirqEnabled := true, timerOverflow := true, inputs := lines [(1, true)] [] [] }
    (fun t => t.pc == 0x003 && t.irqInProgress == .external && t.timerOverflow && t.cycles == 3) = true := by decide
/-- Vector V133, its second step: after RETR the pending timer interrupt is taken. -/
theorem test_timer_after_retr : after { boot 0x003 [0x93] with
      xirqEnabled := true, tirqEnabled := true, timerOverflow := true, irqInProgress := .external, sp := 1, cycles := 3,
      data := mem [(8, 0x01)], inputs := lines [(5, false)] [] [] }
    (fun t => t.pc == 0x007 && t.irqInProgress == .timer && !t.timerOverflow && t.sp == 1 && t.data == [(8, 0x01)] &&
      t.cycles == 7) = true := by decide
/-- Vector V135: no nesting. -/
theorem test_no_nesting : after { boot 0 [0x00] with
      xirqEnabled := true, tirqEnabled := true, timerOverflow := true, irqInProgress := .timer, inputs := lines [(1, true)] [] [] }
    (fun t => t.pc == 1 && t.sp == 0 && t.cycles == 1 && t.timerOverflow) = true := by decide
/-- Vector V137: the address saved after a JNI that fell through, without and with the quirk. -/
theorem test_jni_quirk :
    [false, true].map (fun q =>
      ({ boot 0x011 [0x86, 0x16] with pc := 0x013, irqLastPollResult := true }.enterExternalWith q).data) =
    [[(8, 0x13)], [(8, 0x16)]] := by decide
/-- Vectors V93 and V92: the increment inside and outside a handler. -/
theorem test_fetch_wraps_handler : after { boot 0x7FF [0x00] with irqInProgress := .timer } (fun t => t.pc == 0) = true := by
  decide
theorem test_fetch_crosses_bank : after (boot 0x7FF [0x00]) (fun t => t.pc == 0x800) = true := by decide

/-! ## The host interface -/

/-- Vectors V140 (its first call) and V142. -/
theorem test_run_debt :
    (match run 1 (boot 0 [0x23, 0x11]) with
      | .next t => t.pc == 2 && t.acc == 0x11 && t.cycles == 2 && t.cycleDebt == 1
      | .fault _ => false
      | .refused _ => false) = true := by decide
/-- R78: a short image is rejected. -/
theorem test_create_short : create [0x00] [] = .rejected (.romSize 1) := by decide
/-- R351: a reset keeps the data store. -/
theorem test_reset_keeps_data : ({ boot 5 [] with acc := 7, data := mem [(40, 9)] }.applyReset).readData 40 = 9 := by
  decide
/-- R6, R52: the snapshot shows the bank latch, its shadow and the enables beside the registers of R52. -/
theorem test_snapshot :
    { boot 5 [] with a11 := true, a11Shadow := true, xirqEnabled := true, data := mem [(24, 9)] }.snapshot.a11 = true ∧
    { boot 5 [] with xirqEnabled := true, data := mem [(24, 9)] }.snapshot.xirqEnabled = true ∧
    { boot 5 [] with data := mem [(24, 9)] }.snapshot.bank1 = [9, 0, 0, 0, 0, 0, 0, 0] := by decide
/-- The instruction that `withFetchWord` places is the one fetched. -/
theorem test_with_fetch_word : (State.reset.withFetchWord 16 0x4664).fetchInstr = .jmp 3 0x46 := by decide

/-! ## Witnesses: states and operands that meet the hypotheses of the obligations -/

/-- DecodeEncodeRoundTrip: well-formed instructions, the expander ports at both ends of their range. -/
theorem witness_round_trip :
    [Instr.movdAPp 4, .movdPpA 7, .orldPpA 4, .anldPpA 7, .jmp 7 0xFF, .nop].all Instr.wf = true := by decide
/-- OpcodeClassesCover, NopAndIllegalResults: the first and the last illegal opcode. -/
theorem witness_illegal_opcodes :
    (0x01, Instr.illegal01) ∈ illegalOpcodes ∧ (0xF3, Instr.illegalF3) ∈ illegalOpcodes := by decide
/-- StepRunsDecodedInstruction: an instruction that answers next. -/
theorem witness_step_runs :
    decode [(boot 0 [0x23, 0x11]).readProg (boot 0 [0x23, 0x11]).pc,
        (boot 0 [0x23, 0x11]).readProg ((boot 0 [0x23, 0x11]).incPc (boot 0 [0x23, 0x11]).pc)] =
      .ok (.movAImm 0x11) [] ∧
    (Instr.movAImm 0x11).wf = true ∧
    ∃ t, exec (.movAImm 0x11) { boot 0 [0x23, 0x11] with irqLastPollResult := false } = .next t :=
  ⟨by decide, rfl, _, rfl⟩
/-- StepRunsDecodedInstruction: an instruction that is refused, at the last program address. -/
theorem witness_step_refuses :
    decode [(boot 0xFFF [0x90]).readProg (boot 0xFFF [0x90]).pc,
        (boot 0xFFF [0x90]).readProg ((boot 0xFFF [0x90]).incPc (boot 0xFFF [0x90]).pc)] =
      .ok (.movxIndA 0) [0x00] ∧
    (Instr.movxIndA 0).wf = true ∧
    exec (.movxIndA 0) { boot 0xFFF [0x90] with irqLastPollResult := false } =
      .refused (.unsupported 0x90 0xFFF) := ⟨by decide, rfl, rfl⟩
/-- StepCost, ProgramStoreNeverChanges: a step of 1 cycle, and one with an interrupt entry. -/
theorem witness_step_next :
    (∃ t, step (boot 0 [0x00]) = .next t) ∧
    ∃ t, step { boot 0 [0x00] with xirqEnabled := true, inputs := lines [(1, true)] [] [] } = .next t :=
  ⟨⟨_, rfl⟩, _, rfl⟩
/-- StepRefusesExactlyUnsupported: an opcode on each side. -/
theorem witness_unsupported_sides :
    (boot 0 [0x75]).readProg (boot 0 [0x75]).pc ∈ unsupportedOpcodes ∧
      (boot 0 [0x74]).readProg (boot 0 [0x74]).pc ∉ unsupportedOpcodes := by decide
/-- DecimalAdjustAfterAddIsBcdSum: both ends of the range of both operands. -/
theorem witness_bcd :
    { State.reset with acc := 0x99, data := mem [(7, 0x99)] }.acc = bcd 99 ∧
    { State.reset with acc := 0x99, data := mem [(7, 0x99)] }.reg 7 = bcd 99 ∧
    State.reset.acc = bcd 0 ∧ State.reset.reg 7 = bcd 0 := by decide
/-- RetAfterCallReturns: the state right after the CALL, with the caller's bank latch changed since. -/
theorem witness_ret_after_call : ∃ t u : State, exec (.call 0 0x50) (boot 0x820 [0x14, 0x50]) = .next t ∧ u.sp = t.sp ∧
    (∀ x ∈ entryBytes (boot 0x820 [0x14, 0x50]).sp, u.readData x = t.readData x) ∧ u.irqInProgress = .idle ∧
    u.a11 ≠ t.a11 :=
  ⟨_, { (boot 0x820 [0x14, 0x50]).advance2.push.setPc 0x050 with a11 := true }, rfl, rfl, by decide, rfl, by decide⟩
/-- StackStaysInItsBytes: the addresses next to the stack, and the ends of the data store. -/
theorem witness_outside_stack : ∀ a ∈ [0, 7, 24, 127], a < 8 ∨ 23 < a := by decide
/-- TimerInstructions, TimerModeAccounting, CounterModeCycle, StoppedUnitOnlyCountsCycles: a state in each mode. -/
theorem witness_modes :
    { State.reset with mode := .counter }.mode = .counter ∧ { State.reset with mode := .timer }.mode = .timer ∧
      State.reset.mode = .off ∧ State.reset.mode ≠ .counter := by decide
/-- MaskedOverflowIsLost: a step whose own cycle wraps the counter. -/
theorem witness_masked_overflow :
    (∃ t, step { boot 0 [0x00] with mode := .timer, prescaler := 31, timerCounter := 0xFF } = .next t ∧
      t.timerFlag = true) ∧
    { boot 0 [0x00] with mode := .timer, prescaler := 31, timerCounter := 0xFF }.tirqEnabled = false ∧
    (boot 0 [0x00]).readProg (boot 0 [0x00]).pc ≠ 0x25 ∧ (boot 0 [0x00]).timerOverflow = false :=
  ⟨⟨_, rfl, by decide⟩, by decide⟩

/-- A state whose boundary check enters the external interrupt; the timer's request is pending too. -/
def externalReady : State := { State.reset with
  pc := 0x955, a11 := true, a11Shadow := true, xirqEnabled := true, tirqEnabled := true, timerOverflow := true,
  inputs := lines [(0, true)] [] [] }

/-- A state whose boundary check enters the timer interrupt. -/
def timerReady : State := { externalReady with inputs := lines [(0, false)] [] [] }

/-- A state inside an external handler at 0x003, with a NOP there. -/
def inHandler : State := { boot 0x003 [0x00] with irqInProgress := .external, a11Shadow := true, sp := 1 }

/-- InterruptRecognition, ExternalEntryEffects, TimerEntryEffects: every case. -/
theorem witness_recognition :
    inHandler.irqInProgress ≠ .idle ∧
    (externalReady.irqInProgress = .idle ∧ externalReady.xirqEnabled = true ∧ externalReady.intIn = true) ∧
    (timerReady.irqInProgress = .idle ∧ ¬(timerReady.xirqEnabled = true ∧ timerReady.intIn = true) ∧
      timerReady.tirqEnabled = true ∧ timerReady.timerOverflow = true) ∧
    (State.reset.irqInProgress = .idle ∧ ¬(State.reset.xirqEnabled = true ∧ State.reset.intIn = true) ∧
      ¬(State.reset.tirqEnabled = true ∧ State.reset.timerOverflow = true)) :=
  ⟨by decide, by decide, by decide, by decide⟩
/-- RetrAfterEntryRestores: a handler of either source that ends as the entry left it. -/
theorem witness_retr_after_entry (s : State) (h : s = externalReady ∨ s = timerReady) :
    ∃ t u : State, s.irqInProgress = .idle ∧ s.checkInterrupts = t ∧ t.irqInProgress ≠ .idle ∧ u.sp = t.sp ∧
      u.a11Shadow = t.a11Shadow ∧ (∀ x ∈ entryBytes s.sp, u.readData x = t.readData x) ∧ u.acc ≠ t.acc := by
  rcases h with h | h <;> subst h
  · exact ⟨_, { externalReady.checkInterrupts with acc := 7 }, rfl, rfl, by decide, rfl, rfl, fun _ _ => rfl, by decide⟩
  · exact ⟨_, { timerReady.checkInterrupts with acc := 7 }, rfl, rfl, by decide, rfl, rfl, fun _ _ => rfl, by decide⟩
/-- QuirkReturnIsJniTarget: a JNI that falls through, across a page boundary. -/
theorem witness_jni_falls_through :
    { boot 0x0FF [0x86, 0x30] with inputs := lines [(0, false)] [] [] }.irqInProgress = .idle ∧
    { boot 0x0FF [0x86, 0x30] with inputs := lines [(0, false)] [] [] }.intIn = false ∧
    (boot 0x0FF [0x86, 0x30]).readProg (pcAfter1 (boot 0x0FF [0x86, 0x30])) = 0x30 ∧
    ∃ t, exec (.jni 0x30) { boot 0x0FF [0x86, 0x30] with inputs := lines [(0, false)] [] [] } = .next t :=
  ⟨by decide, by decide, by decide, _, rfl⟩
/-- OnlyRetrLeavesHandler: a NOP inside a handler. -/
theorem witness_in_handler : (∃ t, step inHandler = .next t) ∧ inHandler.irqInProgress ≠ .idle ∧
    inHandler.readProg inHandler.pc ≠ 0x93 := ⟨⟨_, rfl⟩, by decide, by decide⟩
/-- FlagWriters and OtherStateWriters: NOP meets every hypothesis together. -/
theorem witness_writers : (∃ t, exec .nop State.reset = .next t) ∧
    (writesAcc .nop || writesCy .nop || writesAc .nop || writesF0 .nop || writesBs .nop || writesSp .nop || isBankSelect .nop ||
      writesPort .nop || emitsEvent .nop || isJtf .nop || isJni .nop || writesData .nop) = false ∧
    [Instr.clrF1, .cplF1, .retr, .movTA, .strtT, .strtCnt, .stopTcnt, .enI, .disI, .enTcnti, .disTcnti].all
      (fun i => i != .nop) = true := ⟨⟨_, rfl⟩, by decide, by decide⟩
/-- StepKeepsInvariant, ResetHasInvariant: a state inside a handler has the invariant, and a step from it answers
next. -/
theorem witness_invariant : MachineInv inHandler ∧ ∃ t, step inHandler = .next t :=
  ⟨⟨by decide, by decide, by decide, by decide, by decide⟩, _, rfl⟩
/-- ProgramStoreNeverChanges, RunMeetsBudget: a run that answers next, from a machine with the most debt. -/
theorem witness_run : (∃ t, run 4 { boot 0 [0x23, 0x11] with cycleDebt := 3 } = .next t) ∧
    { boot 0 [0x23, 0x11] with cycleDebt := 3 }.cycleDebt ≤ 3 := ⟨⟨_, rfl⟩, by decide⟩
/-- CreatedMachineHoldsImages: images of the right lengths. -/
theorem witness_created : ∃ s, create (List.replicate 4096 0x01) (List.replicate 128 0x02) = .created s :=
  ⟨_, (if_pos List.length_replicate).trans (if_pos List.length_replicate)⟩

end Sys2Proof.Machine.Tests
end

/-! PROOFS. The state rules: what each instruction may write, and from it the machine invariant, the end of a handler
and the writers of each field; the stack, `pc` and the operand forms. -/

namespace Sys2Proof.Machine

/-! ## What an instruction may write -/

/-- Everything that the execution of instruction `i` may write (R301): one constructor for each set of fields, with the
listing of the state rules that licenses the write. All but RETR leave through `SetPC`. -/
inductive Effect (s : State) : Instr → State → Prop
  | pcOnly {i} (v : Addr) : Effect s i (s.setPc v)
  | acc {i} (hacc : writesAcc i = true) (a : Byte) (v : Addr) : Effect s i ((s.setAcc a).setPc v)
  | accCy {i} (hacc : writesAcc i = true) (hcy : writesCy i = true) (a : Byte) (c : Bool) (v : Addr) :
    Effect s i ({ s with acc := a, cy := c }.setPc v)
  | accCyAc {i} (hacc : writesAcc i = true) (hcy : writesCy i = true) (hac : writesAc i = true) (a : Byte) (c h : Bool)
      (v : Addr) : Effect s i ({ s with acc := a, cy := c, ac := h }.setPc v)
  | cy {i} (hcy : writesCy i = true) (c : Bool) (v : Addr) : Effect s i ({ s with cy := c }.setPc v)
  | f0 {i} (hf0 : writesF0 i = true) (f : Bool) (v : Addr) : Effect s i ({ s with f0 := f }.setPc v)
  | f1 {i} (hf1 : i = .clrF1 ∨ i = .cplF1) (f : Bool) (v : Addr) : Effect s i ({ s with f1 := f }.setPc v)
  | bs {i} (hbs : writesBs i = true) (b : Bool) (v : Addr) : Effect s i ({ s with bs := b }.setPc v)
  | psw (b : Byte) (v : Addr) : Effect s .movPswA ((s.setPsw b).setPc v)
  | store {i} (hdata : writesData i = true) {a : Nat} (ha : a < dataSize) (b : Byte) (v : Addr) :
    Effect s i ((s.writeData a b).setPc v)
  | exchange {i} (hdata : writesData i = true) (hacc : writesAcc i = true) {a : Nat} (ha : a < dataSize) (b c : Byte)
      (v : Addr) : Effect s i (((s.writeData a b).setAcc c).setPc v)
  | call {aHi : BitVec 3} {addr8 : Byte} (ret v : Addr) : Effect s (.call aHi addr8) ((s.setPc ret).push.setPc v)
  | ret (v : Addr) : Effect s .ret (s.popSp.setPc v)
  | retr : Effect s .retr s.advance.returnFromInterrupt
  | bank {i} (hbank : isBankSelect i = true) (n : Bool) (v : Addr) : Effect s i ((s.selectBank n).setPc v)
  | port {i} (hport : writesPort i = true) (p : Port) (b : Byte) (v : Addr) : Effect s i ((s.outPort p b).setPc v)
  | event {i} (hevent : emitsEvent i = true) (e : Event) (v : Addr) : Effect s i ((s.emit e).setPc v)
  | poll {i} (hjni : isJni i = true) (u : Bool) (v : Addr) : Effect s i ((s.notePoll u).setPc v)
  | clearFlag {i} (hjtf : isJtf i = true) (v : Addr) : Effect s i (s.clearTimerFlag.setPc v)
  | counter (b : Byte) (v : Addr) : Effect s .movTA ({ s with timerCounter := b }.setPc v)
  | startTimer (v : Addr) : Effect s .strtT ({ s with mode := .timer, prescaler := 0 }.setPc v)
  | startCounter (h : BitVec 2) (v : Addr) :
    Effect s .strtCnt ({ s with t1History := h, mode := .counter }.setPc v)
  | stop (v : Addr) : Effect s .stopTcnt ({ s with mode := .off }.setPc v)
  | external {i} (hxirq : i = .enI ∨ i = .disI) (b : Bool) (v : Addr) :
    Effect s i ({ s with xirqEnabled := b }.setPc v)
  | enableTimer (v : Addr) : Effect s .enTcnti ({ s with tirqEnabled := true }.setPc v)
  | disableTimer (v : Addr) :
    Effect s .disTcnti ({ s with tirqEnabled := false, timerOverflow := false }.setPc v)

/-- A conditional jump after the opcode fetch is one write of `pc`. -/
theorem State.advance_condJump (s : State) (c : Bool) (addr8 : Byte) :
    ∃ v, s.advance.condJump c addr8 = s.setPc v := by
  rcases s.advance.condJump_cases c addr8 with ⟨-, h⟩ | ⟨-, h⟩ <;> exact ⟨_, h⟩

/-- What an instruction that answers next has done (R301): the one walk over the arms of `exec`. -/
theorem exec_effect {i : Instr} {s t : State} (h : exec i s = .next t) : Effect s i t := by
  cases i with
  | nop => cases h; exact .pcOnly (s.pc + 1)
  | jbb | jc | jnc | jz | jnz | jf0 | jf1 | jt0 | jnt0 | jt1 | jnt1 =>
    cases h
    exact (s.advance_condJump _ _).elim fun v hv => hv ▸ .pcOnly v
  | jmp aHi addr8 => cases h; exact .pcOnly (s.bankTarget aHi addr8)
  | jmppAtA => cases h; exact .pcOnly (inPage s.advance.pc _)
  | addAR | addAInd | addcAR | addcAInd => cases h; exact .accCyAc rfl rfl rfl _ _ _ (s.pc + 1)
  | addAImm | addcAImm => cases h; exact .accCyAc rfl rfl rfl _ _ _ (s.incPc s.pc + 1)
  | daA | rlcA | rrcA => cases h; exact .accCy rfl rfl _ _ (s.pc + 1)
  | anlAR | anlAInd | orlAR | orlAInd | xrlAR | xrlAInd | clrA | cplA | movAR | movAInd | swapA | movpAAtA | movp3AAtA
  | movxAInd | incA | decA | rlA | rrA | movAPsw | movAT | inAP1 | inAP2 => cases h; exact .acc rfl _ (s.pc + 1)
  | anlAImm | orlAImm | xrlAImm | movAImm => cases h; exact .acc rfl _ (s.incPc s.pc + 1)
  | movRA r | incR r | decR r => cases h; exact .store rfl (s.regAddr_lt r) _ (s.pc + 1)
  | movIndA r | incInd r => cases h; exact .store rfl (s.ind_lt r) _ (s.pc + 1)
  | movRImm r => cases h; exact .store rfl (s.regAddr_lt r) _ (s.incPc s.pc + 1)
  | movIndImm r => cases h; exact .store rfl (s.ind_lt r) _ (s.incPc s.pc + 1)
  | djnzR r =>
    cases h
    exact (State.advance_condJump _ _ _).elim fun v hv => hv ▸ .store rfl (s.regAddr_lt r) _ v
  | xchAR r => cases h; exact .exchange rfl rfl (s.regAddr_lt r) _ _ (s.pc + 1)
  | xchAInd r | xchdAInd r => cases h; exact .exchange rfl rfl (s.ind_lt r) _ _ (s.pc + 1)
  | jni =>
    cases h
    exact (State.advance_condJump _ _ _).elim fun v hv => hv ▸ .poll rfl _ v
  | jtf =>
    cases h
    exact (State.advance_condJump _ _ _).elim fun v hv => hv ▸ .clearFlag rfl v
  | call aHi addr8 => cases h; exact .call (s.incPc s.pc + 1) (s.bankTarget aHi addr8)
  | ret => cases h; exact .ret s.popAddr
  | retr => cases h; exact .retr
  | clrC => cases h; exact .cy (s := s) rfl false (s.pc + 1)
  | cplC => cases h; exact .cy (s := s) rfl (!s.cy) (s.pc + 1)
  | clrF0 => cases h; exact .f0 (s := s) rfl false (s.pc + 1)
  | cplF0 => cases h; exact .f0 (s := s) rfl (!s.f0) (s.pc + 1)
  | clrF1 => cases h; exact .f1 (s := s) (.inl rfl) false (s.pc + 1)
  | cplF1 => cases h; exact .f1 (s := s) (.inr rfl) (!s.f1) (s.pc + 1)
  | selRB0 => cases h; exact .bs (s := s) rfl false (s.pc + 1)
  | selRB1 => cases h; exact .bs (s := s) rfl true (s.pc + 1)
  | selMB0 | selMB1 => cases h; exact .bank rfl _ (s.pc + 1)
  | movPswA => cases h; exact .psw s.acc (s.pc + 1)
  | enI => cases h; exact .external (s := s) (.inl rfl) true (s.pc + 1)
  | disI => cases h; exact .external (s := s) (.inr rfl) false (s.pc + 1)
  | enTcnti => cases h; exact .enableTimer (s := s) (s.pc + 1)
  | disTcnti => cases h; exact .disableTimer (s := s) (s.pc + 1)
  | strtT => cases h; exact .startTimer (s := s) (s.pc + 1)
  | strtCnt => cases h; exact .startCounter (s := s) _ (s.pc + 1)
  | stopTcnt => cases h; exact .stop (s := s) (s.pc + 1)
  | movTA => cases h; exact .counter (s := s) s.acc (s.pc + 1)
  | outlP1A => cases h; exact .port rfl .p1 _ (s.pc + 1)
  | outlP2A => cases h; exact .port rfl .p2 _ (s.pc + 1)
  | anlP1Imm | orlP1Imm => cases h; exact .port rfl .p1 _ (s.incPc s.pc + 1)
  | anlP2Imm | orlP2Imm => cases h; exact .port rfl .p2 _ (s.incPc s.pc + 1)
  | movxIndA | outlBusA | insABus | orlBusImm | anlBusImm | movdAPp | movdPpA | orldPpA | anldPpA | ent0Clk => cases h
  | illegal01 | illegal06 | illegal0B | illegal22 | illegal33 | illegal38 | illegal3B | illegal63
  | illegal66 | illegal73 | illegal82 | illegal87 | illegal8B | illegal9B | illegalA2 | illegalA6
  | illegalB7 | illegalC0 | illegalC1 | illegalC2 | illegalC3 | illegalD6 | illegalE0 | illegalE1
  | illegalE2 | illegalF3 =>
    cases h; exact .event rfl (.diag _ s.pc) (s.pc + 1)

/-! ## The machine invariant, operation by operation -/

/-- The invariant is about eight fields only. -/
theorem MachineInv.congr {s t : State} (hs : MachineInv s) (hdata : t.data = s.data) (hprog : t.prog = s.prog)
    (hpc : t.pc = s.pc) (ha11 : t.a11 = s.a11) (hshadow : t.a11Shadow = s.a11Shadow)
    (hirq : t.irqInProgress = s.irqInProgress) (hover : t.timerOverflow = s.timerOverflow)
    (htirq : t.tirqEnabled = s.tirqEnabled) : MachineInv t where
  dataForm := hdata ▸ hs.dataForm
  progForm := hprog ▸ hs.progForm
  handlerLow := by rw [hirq, hpc, ha11]; exact hs.handlerLow
  idleShadow := by rw [hirq, hshadow, ha11]; exact hs.idleShadow
  overflowEnabled := by rw [hover, htirq]; exact hs.overflowEnabled

/-- R71: both vectors lie in the lower bank, as an address inside a handler must. -/
theorem vectors_low : vecExternal.toNat < 0x800 ∧ vecTimer.toNat < 0x800 := by decide

section
variable {s : State} (hs : MachineInv s)
include hs

/-- R26: inside a handler `SetPC` stays below 0x800. -/
theorem MachineInv.setPc (v : Addr) : MachineInv (s.setPc v) where
  dataForm := hs.dataForm
  progForm := hs.progForm
  handlerLow h := ⟨maskPc_lt h v, (hs.handlerLow h).2⟩
  idleShadow := hs.idleShadow
  overflowEnabled := hs.overflowEnabled

theorem MachineInv.writeData {a : Nat} (ha : a < dataSize) (b : Byte) : MachineInv (s.writeData a b) where
  dataForm := Memory.wf_write hs.dataForm ha
  progForm := hs.progForm
  handlerLow := hs.handlerLow
  idleShadow := hs.idleShadow
  overflowEnabled := hs.overflowEnabled

theorem MachineInv.push : MachineInv s.push where
  dataForm := State.push_wf hs.dataForm
  progForm := hs.progForm
  handlerLow := hs.handlerLow
  idleShadow := hs.idleShadow
  overflowEnabled := hs.overflowEnabled

/-- R238, R239: outside a handler SEL MBn writes latch and shadow alike, inside only the shadow. -/
theorem MachineInv.selectBank (n : Bool) : MachineInv (s.selectBank n) where
  dataForm := hs.dataForm
  progForm := hs.progForm
  handlerLow h := ⟨(hs.handlerLow h).1, by simpa [show s.irqInProgress ≠ .idle from h] using (hs.handlerLow h).2⟩
  idleShadow h := by simp [show s.irqInProgress = .idle from h]
  overflowEnabled := hs.overflowEnabled

/-- R319: RETR ends the handler and takes the latch from the shadow. -/
theorem MachineInv.returnFromInterrupt : MachineInv s.returnFromInterrupt where
  dataForm := hs.dataForm
  progForm := hs.progForm
  handlerLow h := absurd rfl h
  idleShadow _ := rfl
  overflowEnabled := hs.overflowEnabled

/-- R307: accounting sets the sticky latch only while the timer interrupt is enabled. -/
theorem MachineInv.account (n : Nat) : MachineInv (s.account n) where
  dataForm := by simpa using hs.dataForm
  progForm := by simpa using hs.progForm
  handlerLow := by simpa using hs.handlerLow
  idleShadow := by simpa using hs.idleShadow
  overflowEnabled h := by simpa using (s.account_overflow n h).elim hs.overflowEnabled id

theorem MachineInv.enterExternal : MachineInv s.enterExternal := by
  have ha := hs.account 2
  unfold State.enterExternal
  rw [State.enterExternalWith_eq]
  refine ⟨State.push_wf ?_, ha.progForm, fun _ => ⟨vectors_low.1, rfl⟩, fun h => ?_, ha.overflowEnabled⟩
  · rw [State.applyQuirk_frame]
    exact ha.dataForm
  · cases h

theorem MachineInv.enterTimer : MachineInv s.enterTimer := by
  have ha := hs.account 2
  rw [State.enterTimer_eq]
  refine ⟨State.push_wf ha.dataForm, ha.progForm, fun _ => ⟨vectors_low.2, rfl⟩, fun h => ?_, fun h => ?_⟩
  · cases h
  · cases h

theorem MachineInv.checkInterrupts : MachineInv s.checkInterrupts := by
  rcases s.checkInterrupts_cases with ⟨-, -, h⟩ | ⟨-, -, -, h⟩ | h <;> rw [h]
  · exact hs.enterExternal
  · exact hs.enterTimer
  · exact hs

/-- Every instruction keeps the invariant on its own, before the end of the step. -/
theorem MachineInv.effect {i : Instr} {t : State} (h : Effect s i t) : MachineInv t := by
  cases h with
  | pcOnly v => exact hs.setPc v
  | acc | accCy | accCyAc | cy | f0 | f1 | bs | psw | ret | event | poll | clearFlag | counter | startTimer
  | startCounter | stop | external =>
    apply MachineInv.setPc
    exact hs.congr rfl rfl rfl rfl rfl rfl rfl rfl
  | port =>
    apply MachineInv.setPc
    apply hs.congr <;> simp
  | store _ ha b v => exact (hs.writeData ha b).setPc v
  | exchange _ _ ha b =>
    apply MachineInv.setPc
    exact (hs.writeData ha b).congr rfl rfl rfl rfl rfl rfl rfl rfl
  | call ret v => exact (hs.setPc ret).push.setPc v
  | retr => exact (hs.setPc _).returnFromInterrupt
  | bank _ n v => exact (hs.selectBank n).setPc v
  | enableTimer v =>
    apply MachineInv.setPc
    exact ⟨hs.dataForm, hs.progForm, hs.handlerLow, hs.idleShadow, fun _ => rfl⟩
  | disableTimer v =>
    apply MachineInv.setPc
    exact ⟨hs.dataForm, hs.progForm, hs.handlerLow, hs.idleShadow, fun h => nomatch h⟩

end

/-- Settles O54: an instruction's effect, the accounting and the boundary check each keep the invariant. -/
theorem stepKeepsInvariant : Obligations.StepKeepsInvariant := by
  intro s t hs h
  obtain ⟨u, hu, rfl⟩ := step_next_cases s h
  have hb : MachineInv s.beginStep := hs.congr rfl rfl rfl rfl rfl rfl rfl rfl
  exact ((hb.effect (exec_effect hu)).account _).checkInterrupts

/-- Settles O55: after a RESET no interrupt is in progress, latch and shadow are both 0, no request is latched, and the
memories are empty or the old ones. -/
theorem resetHasInvariant : Obligations.ResetHasInvariant := by
  refine ⟨⟨Memory.wf_reset.1, Memory.wf_reset.2, fun h => absurd rfl h, fun _ => rfl, fun h => nomatch h⟩, ?_⟩
  intro s hs
  exact ⟨hs.dataForm, hs.progForm, fun h => absurd rfl h, fun _ => rfl, fun h => nomatch h⟩

/-! ## Only RETR ends a handler -/

theorem State.checkInterrupts_busy {s : State} (h : s.irqInProgress ≠ .idle) : s.checkInterrupts = s := if_neg h

theorem Effect.irqInProgress_eq {s t : State} {i : Instr} (h : Effect s i t) (hi : i ≠ .retr) :
    t.irqInProgress = s.irqInProgress := by
  cases h with
  | retr => exact absurd rfl hi
  | _ => simp

theorem findRow_eq_rowOf (op : Byte) : findRow op = some (rowOf op) := (Option.some_get _).symm

theorem rowOf_mem (op : Byte) : rowOf op ∈ opcodeRows := List.mem_of_find?_eq_some (findRow_eq_rowOf op)

theorem rowOf_matches (op : Byte) : op &&& (rowOf op).mask = (rowOf op).pattern := by
  simpa using List.find?_some (findRow_eq_rowOf op)

/-- The table has one row that builds RETR, and it matches one byte. -/
theorem retr_row : ∀ row ∈ opcodeRows, ∀ op b2 : Byte,
    row.build op b2 = .retr → row.mask = 0xFF ∧ row.pattern = 0x93 := by
  simp only [opcodeRows, arithmeticRows, logicRows, moveRows, incRotateRows, branchRows, controlRows, timerIoRows,
    unsupportedRows, illegalRows, List.forall_mem_append, List.forall_mem_cons]
  simp

theorem decodeOp_eq_retr {op b2 : Byte} (h : decodeOp op b2 = .retr) : op = 0x93 := by
  obtain ⟨hmask, hpattern⟩ := retr_row (rowOf op) (rowOf_mem op) op b2 h
  have hop := rowOf_matches op
  rw [hmask, hpattern, show (0xFF : Byte) = BitVec.allOnes 8 from rfl, BitVec.and_allOnes] at hop
  exact hop

/-- Settles O51: no other instruction writes `irq_in_progress`, and the boundary check finds it set and does nothing. -/
theorem onlyRetrLeavesHandler : Obligations.OnlyRetrLeavesHandler := by
  intro s t h hirq hop
  obtain ⟨u, hu, rfl⟩ := step_next_cases s h
  have hi : s.fetchInstr ≠ .retr := fun hr => hop (decodeOp_eq_retr hr)
  have hkept : (u.account s.fetchInstr.cycles).irqInProgress = s.irqInProgress := by
    simpa using (exec_effect hu).irqInProgress_eq hi
  unfold State.endStep
  rw [State.checkInterrupts_busy (hkept ▸ hirq), hkept]

/-! ## Who writes what -/

/-- Settles O52: a flag or `sp` is written only by the kinds of effect that R27 and R30 license. -/
theorem flagWriters : Obligations.FlagWriters := by
  intro i s t h
  cases exec_effect h with
  | accCy _ hcy | cy hcy => simp [hcy]
  | accCyAc _ hcy hac => simp [hcy, hac]
  | f0 hf0 => simp [hf0]
  | bs hbs => simp [hbs]
  | f1 hf1 => rcases hf1 with rfl | rfl <;> simp
  | psw | call | ret | retr => simp [writesCy, writesAc, writesF0, writesBs, writesSp, isCall]
  | _ => simp


theorem emitsEvent_of_writesPort {i : Instr} (h : writesPort i = true) : emitsEvent i = true := by
  simp [emitsEvent, h]

/-- Settles O53: each kind of effect writes what it is licensed to write, and nothing else. -/
theorem otherStateWriters : Obligations.OtherStateWriters := by
  intro i s t h
  unfold State.readData State.readProg
  cases exec_effect h with
  | acc hacc | accCy hacc | accCyAc hacc => simp [hacc]
  | store hdata => simp [hdata]
  | exchange hdata hacc => simp [hdata, hacc]
  | call => simp [writesData]
  | bank hbank => simp [hbank]
  | port hport => simp [hport, emitsEvent_of_writesPort hport]
  | event hevent => simp [hevent]
  | poll hjni => simp [hjni]
  | clearFlag hjtf => simp [hjtf]
  | external hxirq => rcases hxirq with rfl | rfl <;> simp
  | _ => simp

/-! ## The stack -/

theorem pushes_succ (n : Nat) (s : State) : pushes (n + 1) s = pushes n s.push := rfl

/-- Each push adds 1 to the 3-bit stack pointer (R33, R34). -/
theorem pushes_sp (n : Nat) (s : State) : (pushes n s).sp.toNat = (s.sp.toNat + n) % 8 := by
  induction n generalizing s with
  | zero => exact (Nat.mod_eq_of_lt s.sp.isLt).symm
  | succ n ih =>
    rw [pushes_succ, ih, State.push_sp, BitVec.toNat_add]
    change ((s.sp.toNat + 1) % 8 + n) % 8 = _
    omega

theorem stackLow_range (i : BitVec 3) : 8 ≤ stackLow i ∧ stackLow i ≤ 22 := by
  have := i.isLt
  unfold stackLow
  omega

theorem stackHigh_range (i : BitVec 3) : 9 ≤ stackHigh i ∧ stackHigh i ≤ 23 := by
  have := i.isLt
  unfold stackHigh
  omega

/-- A push stores inside the eight entries only (R33). -/
theorem State.push_readData_outside (s : State) {a : Nat} (ha : a < 8 ∨ 23 < a) :
    s.push.readData a = s.readData a := by
  have hlow := stackLow_range s.sp
  have hhigh := stackHigh_range s.sp
  exact (s.push_read a).trans (by rw [if_neg (by omega), if_neg (by omega)]; rfl)

theorem pushes_readData_outside (n : Nat) (s : State) {a : Nat} (ha : a < 8 ∨ 23 < a) :
    (pushes n s).readData a = s.readData a := by
  induction n generalizing s with
  | zero => rfl
  | succ n ih => rw [pushes_succ, ih, s.push_readData_outside ha]

/-- Settles O29, by induction on the number of pushes. -/
theorem stackStaysInItsBytes : Obligations.StackStaysInItsBytes := by
  intro s
  refine ⟨?_, fun n => pushes_sp n s, fun n _ ha => pushes_readData_outside n s ha⟩
  apply BitVec.eq_of_toNat_eq
  rw [pushes_sp, Nat.add_mod_right, Nat.mod_eq_of_lt s.sp.isLt]

/-! ## The program counter and the operand forms -/

/-- Settles O7: both addresses are reduced by `maskPc`, whose modulus divides 4096. -/
theorem pcIncrementAndSetPc : Obligations.PcIncrementAndSetPc := by
  intro s v
  refine ⟨?_, maskPc_toNat _ _, rfl⟩
  rw [State.incPc, maskPc_toNat, BitVec.toNat_add]
  split_ifs
  · exact Nat.mod_mod _ _
  · exact Nat.mod_mod_of_dvd _ (by decide)

/-- Settles O8, by the laws of one memory write. -/
theorem operandFormsNameDataBytes : Obligations.OperandFormsNameDataBytes := by
  intro s r q v
  refine ⟨rfl, Memory.read_write_same _ _ _, ⟨fun a ha => ?_, fun _ => rfl⟩, rfl, rfl⟩
  exact Memory.read_write_other _ _ (mt List.mem_singleton.mpr ha)

end Sys2Proof.Machine

/-! PROOFS. The memory rules: no step and no run writes the program store, and a created machine holds its two images
byte for byte. -/

namespace Sys2Proof.Machine

/-! ## Along a run -/

/-- What every step keeps, the loop of `Run` keeps (R370), by induction on its fuel. -/
theorem runTo_keeps {P : State → Prop} (hstep : ∀ s t, P s → step s = .next t → P t) {target fuel : Nat} {s t : State}
    (hs : P s) (h : runTo target fuel s = .next t) : P t := by
  induction fuel generalizing s with
  | zero => cases h; exact hs
  | succ fuel ih =>
    rw [runTo_succ] at h
    split_ifs at h
    · split at h
      · next u hu => exact ih (hstep s u hs hu) h
      · cases h
      · cases h
    · cases h; exact hs

/-- What every step keeps and the cycle debt does not touch, a run keeps (R370). -/
theorem run_keeps {P : State → Prop} (hstep : ∀ s t, P s → step s = .next t → P t)
    (hdebt : ∀ s d, P s → P { s with cycleDebt := d }) {n : Nat} {s t : State} (hs : P s) (h : run n s = .next t) :
    P t := by
  unfold run at h
  split_ifs at h
  · cases h; exact hdebt s _ hs
  · split at h
    · next u hu =>
      cases h
      exact hdebt u _ (runTo_keeps hstep hs hu)
    · cases h
    · cases h

/-! ## The program store -/

/-- R60, R76: no instruction stores to the program store. -/
theorem Effect.prog_eq {s t : State} {i : Instr} (h : Effect s i t) : t.prog = s.prog := by
  cases h with
  | port _ p b => exact s.outPort_prog p b
  | _ => rfl

/-- An interrupt entry pushes onto the data store only. -/
theorem State.checkInterrupts_prog (s : State) : s.checkInterrupts.prog = s.prog := by
  rcases s.checkInterrupts_cases with ⟨-, -, h⟩ | ⟨-, -, -, h⟩ | h <;> rw [h]
  · unfold State.enterExternal
    rw [State.enterExternalWith_eq]
    exact s.account_prog 2
  · rw [State.enterTimer_eq]
    exact s.account_prog 2

/-- R60, R76: a step keeps the program store, through the instruction, the accounting and the boundary check. -/
theorem step_prog {s t : State} (h : step s = .next t) : t.prog = s.prog := by
  obtain ⟨u, hu, rfl⟩ := step_next_cases s h
  calc (u.endStep s.fetchInstr.cycles).prog
      = (u.account s.fetchInstr.cycles).prog := State.checkInterrupts_prog _
    _ = u.prog := u.account_prog _
    _ = s.prog := (exec_effect hu).prog_eq

theorem run_prog {n : Nat} {s t : State} (h : run n s = .next t) : t.prog = s.prog :=
  run_keeps (P := fun u => u.prog = s.prog) (fun _ _ hu hstep => (step_prog hstep).trans hu) (fun _ _ hu => hu) rfl h

/-- Settles O57: the store itself is kept along the run, so every byte of it reads as before. -/
theorem programStoreNeverChanges : Obligations.ProgramStoreNeverChanges := by
  intro n s t h a
  unfold State.readProg
  rw [run_prog h]

/-! ## The images of a created machine -/

/-- Nothing is listed below the address where the bytes begin. -/
theorem Memory.read_ofBytes_below {a b : Nat} (h : b < a) (bytes : List Byte) :
    (Memory.ofBytes a bytes).read b = Memory.blank := by
  induction bytes generalizing a with
  | nil => rfl
  | cons v bytes ih =>
    have htail := ih (Nat.lt_succ_of_lt h)
    unfold Memory.ofBytes
    split_ifs
    · exact htail
    · exact (if_neg h.ne').trans htail

/-- Byte `i` of the list reads at address `a + i`, and past the list every byte reads as unlisted. -/
theorem Memory.read_ofBytes (a i : Nat) (bytes : List Byte) :
    (Memory.ofBytes a bytes).read (a + i) = bytes.getD i Memory.blank := by
  induction bytes generalizing a i with
  | nil => rfl
  | cons v bytes ih =>
    unfold Memory.ofBytes
    cases i with
    | zero =>
      split_ifs with hv
      · exact (Memory.read_ofBytes_below (Nat.lt_succ_self a) bytes).trans hv.symm
      · exact if_pos rfl
    | succ i =>
      have htail : (Memory.ofBytes (a + 1) bytes).read (a + (i + 1)) = bytes.getD i Memory.blank := by
        rw [← ih (a + 1) i, Nat.add_right_comm, Nat.add_assoc]
      split_ifs
      · exact htail
      · exact (if_neg (by omega)).trans htail

theorem Memory.read_ofBytes_zero (bytes : List Byte) (a : Nat) :
    (Memory.ofBytes 0 bytes).read a = bytes.getD a Memory.blank := by
  rw [← Memory.read_ofBytes 0 a bytes, Nat.zero_add]

/-- The byte list is held in canonical form inside any address space it fits into. -/
theorem Memory.wfFrom_ofBytes {size a : Nat} {bytes : List Byte} (h : a + bytes.length ≤ size) :
    Memory.wfFrom size a (Memory.ofBytes a bytes) = true := by
  induction bytes generalizing a with
  | nil => rfl
  | cons v bytes ih =>
    rw [List.length_cons] at h
    have htail := ih (a := a + 1) (by omega)
    unfold Memory.ofBytes
    split_ifs with hv
    · exact Memory.wfFrom_mono (Nat.le_succ a) htail
    · exact Memory.wfFrom_cons.mpr ⟨le_rfl, by omega, hv, htail⟩

/-- An image of unlisted bytes lists nothing. -/
theorem Memory.ofBytes_replicate_blank (a n : Nat) : Memory.ofBytes a (List.replicate n Memory.blank) = [] := by
  induction n generalizing a with
  | zero => rfl
  | succ n ih => exact (if_pos rfl).trans (ih (a + 1))

/-- R350: the machine that `create` makes of two images of the right lengths. -/
def State.ofImages (rom ram : List Byte) : State :=
  { State.reset with prog := Memory.ofBytes 0 rom, data := Memory.ofBytes 0 ram }

/-- R78, R350: what creation answers, and when. -/
theorem create_eq_created_iff {rom ram : List Byte} {s : State} :
    create rom ram = .created s ↔ (rom.length = progSize ∧ ram.length = dataSize) ∧ s = State.ofImages rom ram := by
  unfold create
  split_ifs with hrom hram
  · simp [hrom, hram, State.ofImages, eq_comm]
  · simp [hram]
  · simp [hrom]

theorem MachineInv.ofImages {rom ram : List Byte} (hrom : rom.length = progSize) (hram : ram.length = dataSize) :
    MachineInv (State.ofImages rom ram) where
  dataForm := Memory.wfFrom_ofBytes (by omega)
  progForm := Memory.wfFrom_ofBytes (by omega)
  handlerLow := resetHasInvariant.1.handlerLow
  idleShadow := resetHasInvariant.1.idleShadow
  overflowEnabled := resetHasInvariant.1.overflowEnabled

theorem State.ofImages_readProg (rom ram : List Byte) (a : Addr) :
    (State.ofImages rom ram).readProg a = rom.getD a.toNat 0 :=
  Memory.read_ofBytes_zero rom a.toNat

theorem State.ofImages_readData (rom ram : List Byte) (a : Nat) :
    (State.ofImages rom ram).readData a = ram.getD a 0 :=
  Memory.read_ofBytes_zero ram a

/-- Settles O60, by what creation answers and how the two byte lists read. -/
theorem createdMachineHoldsImages : Obligations.CreatedMachineHoldsImages := by
  refine ⟨fun rom ram => ?_, fun rom ram s h => ?_⟩
  · simp [create_eq_created_iff, progSize, dataSize]
  · obtain ⟨⟨hrom, hram⟩, rfl⟩ := create_eq_created_iff.mp h
    exact ⟨State.ofImages_readProg rom ram, fun a => State.ofImages_readData rom ram a.val, .ofImages hrom hram, rfl⟩

/-! ## The first step of an all-zero machine -/

/-- All-zero images list no byte, as the memories after reset do (log entries 1 and 2). -/
theorem State.ofImages_zero (n m : Nat) :
    State.ofImages (List.replicate n 0x00) (List.replicate m 0x00) = State.reset := by
  have hzero : (0x00 : Byte) = Memory.blank := rfl
  unfold State.ofImages
  rw [hzero, Memory.ofBytes_replicate_blank, Memory.ofBytes_replicate_blank]
  rfl

/-- Settles O37: the byte at address 0 decodes to NOP; the stopped timer unit only counts its cycle, and no enabled
interrupt is there to enter. -/
theorem firstStepOfZeroRom : Obligations.FirstStepOfZeroRom := by
  have hfetch : State.reset.fetchInstr = .nop := rfl
  have hexec : exec .nop State.reset.beginStep = .next (State.reset.beginStep.setPc 0x001) := rfl
  have hend : (State.reset.beginStep.setPc 0x001).endStep Instr.nop.cycles
      = { State.reset with pc := 0x001, cycles := 1 } := rfl
  refine ⟨State.reset, create_eq_created_iff.mpr ⟨?_, (State.ofImages_zero 4096 128).symm⟩, rfl, ?_⟩
  · exact ⟨List.length_replicate, List.length_replicate⟩
  · unfold step
    rw [hfetch, hexec]
    exact congrArg Host.Outcome.next hend

end Sys2Proof.Machine

/-! PROOFS. The encoding rules: the bits that each operand field reads and writes, the one row of an opcode byte, and
from them the round trips, the classes of opcodes, and their lengths and costs. -/

namespace Sys2Proof.Machine

/-! ## Masks

A row's mask is ones over the bits that the opcode fixes and zeros over the operand field, which lies below them or, in
formats JB and J11, above them (R91). -/

theorem append_and_highMask {v w : Nat} (h : BitVec v) (x : BitVec w) :
    (h ++ x) &&& (BitVec.allOnes v ++ 0#w) = h ++ 0#w := by
  rw [BitVec.and_append, BitVec.and_allOnes, BitVec.and_zero]

theorem append_and_lowMask {v w : Nat} (x : BitVec v) (l : BitVec w) :
    (x ++ l) &&& (0#v ++ BitVec.allOnes w) = 0#v ++ l := by
  rw [BitVec.and_append, BitVec.and_allOnes, BitVec.and_zero]

/-- The fixed high bits and the field below them make up the whole. -/
theorem append_extractLsb'_of_highMask {v w : Nat} {x : BitVec (v + w)} {h : BitVec v}
    (hx : x &&& (BitVec.allOnes v ++ 0#w) = h ++ 0#w) : h ++ x.extractLsb' 0 w = x := by
  rw [← BitVec.extractLsb'_append_extractLsb' (x := x), append_and_highMask, BitVec.append_left_inj] at hx
  rw [← hx]
  exact BitVec.extractLsb'_append_extractLsb'

/-- The field and the fixed low bits below it make up the whole. -/
theorem extractLsb'_append_of_lowMask {v w : Nat} {x : BitVec (v + w)} {l : BitVec w}
    (hx : x &&& (0#v ++ BitVec.allOnes w) = 0#v ++ l) : x.extractLsb' w v ++ l = x := by
  rw [← BitVec.extractLsb'_append_extractLsb' (x := x), append_and_lowMask, BitVec.append_right_inj] at hx
  rw [← hx]
  exact BitVec.extractLsb'_append_extractLsb'

theorem and_fullMask (op : Byte) : op &&& 0xFF#8 = op := BitVec.and_allOnes

/-! ## The operand fields: the bits that the decoder reads (R92) -/

theorem regBits_regField (op : Byte) : regBits (regField op) = op.extractLsb' 0 3 := by
  apply BitVec.eq_of_toNat_eq
  simp [regBits, regField]

theorem ptrBits_ptrField (op : Byte) : ptrBits (ptrField op) = op.extractLsb' 0 1 := by
  apply BitVec.eq_of_toNat_eq
  simp [ptrBits, ptrField]

theorem portBits_portField (op : Byte) : portBits (portField op) = op.extractLsb' 0 2 := by
  apply BitVec.eq_of_toNat_eq
  simp [portBits, portField]

/-- An accumulator bit number is written in three bits, as a register number is. -/
theorem regBits_bitField (op : Byte) : regBits (bitField op) = op.extractLsb' 5 3 := by
  apply BitVec.eq_of_toNat_eq
  simp [regBits, bitField, Nat.shiftRight_eq_div_pow]

theorem portOk_portField (op : Byte) : portOk (portField op) = true := by
  have hbounds : 4 ≤ portField op ∧ portField op ≤ 7 := by
    unfold portField
    omega
  simpa [portOk] using hbounds

/-! ## Reading a field that the encoder wrote -/

theorem regBits_injective : Function.Injective regBits := by decide

theorem ptrBits_injective : Function.Injective ptrBits := by decide

theorem regField_append (h : BitVec 5) (r : Fin 8) : regField (h ++ regBits r) = r :=
  regBits_injective ((regBits_regField _).trans BitVec.extractLsb'_append_eq_right)

theorem ptrField_append (h : BitVec 7) (r : Fin 2) : ptrField (h ++ ptrBits r) = r :=
  ptrBits_injective ((ptrBits_ptrField _).trans BitVec.extractLsb'_append_eq_right)

theorem bitField_append (b : Fin 8) (l : BitVec 5) : bitField (regBits b ++ l) = b :=
  regBits_injective ((regBits_bitField _).trans BitVec.extractLsb'_append_eq_left)

theorem aHiField_append (a : BitVec 3) (l : BitVec 5) : aHiField (a ++ l) = a := BitVec.extractLsb'_append_eq_left

/-- The two bits hold the distance from port 4, which only a port number in range fits into. -/
theorem portField_append (h : BitVec 6) {p : Nat} (hp : portOk p = true) : portField (h ++ portBits p) = p := by
  obtain ⟨hlow, hhigh⟩ : 4 ≤ p ∧ p ≤ 7 := by simpa [portOk] using hp
  have hbits : (h ++ portBits p).toNat % 4 = p - 4 := by
    have hright := congrArg BitVec.toNat (BitVec.extractLsb'_append_eq_right (a := h) (b := portBits p))
    simpa [portBits, Nat.mod_eq_of_lt (show p - 4 < 4 by omega)] using hright
  unfold portField
  omega

/-! ## Writing back a field that the decoder read -/

theorem append_regBits_of_mask {op : Byte} {h : BitVec 5} (hop : op &&& 0xF8#8 = h ++ 0#3) :
    h ++ regBits (regField op) = op := by
  rw [regBits_regField]
  exact append_extractLsb'_of_highMask hop

theorem append_ptrBits_of_mask {op : Byte} {h : BitVec 7} (hop : op &&& 0xFE#8 = h ++ 0#1) :
    h ++ ptrBits (ptrField op) = op := by
  rw [ptrBits_ptrField]
  exact append_extractLsb'_of_highMask hop

theorem append_portBits_of_mask {op : Byte} {h : BitVec 6} (hop : op &&& 0xFC#8 = h ++ 0#2) :
    h ++ portBits (portField op) = op := by
  rw [portBits_portField]
  exact append_extractLsb'_of_highMask hop

theorem bitField_append_of_mask {op : Byte} {l : BitVec 5} (hop : op &&& 0x1F#8 = 0#3 ++ l) :
    BitVec.ofNat 3 (bitField op).val ++ l = op := by
  rw [← regBits, regBits_bitField]
  exact extractLsb'_append_of_lowMask hop

theorem aHiField_append_of_mask {op : Byte} {l : BitVec 5} (hop : op &&& 0x1F#8 = 0#3 ++ l) : aHiField op ++ l = op :=
  extractLsb'_append_of_lowMask hop

/-! ## The one row of an opcode byte -/

/-- R110: no byte matches two rows, because every two patterns differ under both masks. -/
theorem opcodeRows_disjoint : opcodeRows.Pairwise fun a b => a.pattern &&& b.mask ≠ b.pattern &&& a.mask := by
  decide +kernel

theorem rowOf_eq {row : OpcodeRow} (hrow : row ∈ opcodeRows) {op : Byte} (hop : op &&& row.mask = row.pattern) :
    rowOf op = row := by
  by_contra hne
  have : Std.Symm fun a b : OpcodeRow => a.pattern &&& b.mask ≠ b.pattern &&& a.mask := ⟨fun _ _ h => h.symm⟩
  refine opcodeRows_disjoint.forall (rowOf_mem op) hrow hne ?_
  rw [← rowOf_matches op, ← hop, BitVec.and_assoc, BitVec.and_assoc, BitVec.and_comm row.mask]

/-- A byte that agrees with another under the mask of the other's row is in that row. -/
theorem rowOf_congr {op op₀ : Byte} (h : op &&& (rowOf op₀).mask = op₀ &&& (rowOf op₀).mask) :
    rowOf op = rowOf op₀ :=
  rowOf_eq (rowOf_mem op₀) (h.trans (rowOf_matches op₀))

theorem rowOf_append_regBits {h : BitVec 5} {x : BitVec 3}
    (hmask : (rowOf (h ++ 0#3)).mask = BitVec.allOnes 5 ++ 0#3) : rowOf (h ++ x) = rowOf (h ++ 0#3) :=
  rowOf_congr (by rw [hmask, append_and_highMask, append_and_highMask])

theorem rowOf_append_ptrBits {h : BitVec 7} {x : BitVec 1}
    (hmask : (rowOf (h ++ 0#1)).mask = BitVec.allOnes 7 ++ 0#1) : rowOf (h ++ x) = rowOf (h ++ 0#1) :=
  rowOf_congr (by rw [hmask, append_and_highMask, append_and_highMask])

theorem rowOf_append_portBits {h : BitVec 6} {x : BitVec 2}
    (hmask : (rowOf (h ++ 0#2)).mask = BitVec.allOnes 6 ++ 0#2) : rowOf (h ++ x) = rowOf (h ++ 0#2) :=
  rowOf_congr (by rw [hmask, append_and_highMask, append_and_highMask])

theorem rowOf_highBits_append {x : BitVec 3} {l : BitVec 5}
    (hmask : (rowOf (0#3 ++ l)).mask = 0#3 ++ BitVec.allOnes 5) : rowOf (x ++ l) = rowOf (0#3 ++ l) :=
  rowOf_congr (by rw [hmask, append_and_lowMask, append_and_lowMask])

/-! ## Decoding the bytes of an instruction -/

theorem decode_one {op : Byte} (h : opLength op = 1) (rest : List Byte) :
    decode (op :: rest) = .ok (decodeOp op 0) rest := if_pos h

theorem decode_two {op : Byte} (h : opLength op = 2) (b2 : Byte) (rest : List Byte) :
    decode (op :: b2 :: rest) = .ok (decodeOp op b2) rest := if_neg (by omega)

section
variable {α : Type} {op op₀ : Byte} {field : Byte → α} {x : α}

/-- A 1-byte instruction with one operand field: the opcode is in the row of `op₀`, and the row reads the field. -/
theorem decode_field_one {f : α → Instr} (hrow : rowOf op = rowOf op₀) (hfield : field op = x)
    (hlen : (rowOf op₀).length = 1) (hbuild : ∀ op b2, (rowOf op₀).build op b2 = f (field op))
    (rest : List Byte) : decode ([op] ++ rest) = .ok (f x) rest := by
  rw [List.singleton_append, decode_one (by rw [opLength, hrow, hlen]), decodeOp, hrow, hbuild, hfield]

/-- The same for a 2-byte instruction. -/
theorem decode_field_two {f : α → Byte → Instr} (hrow : rowOf op = rowOf op₀) (hfield : field op = x)
    (hlen : (rowOf op₀).length = 2) (hbuild : ∀ op b2, (rowOf op₀).build op b2 = f (field op) b2) (b2 : Byte)
    (rest : List Byte) : decode ([op, b2] ++ rest) = .ok (f x b2) rest := by
  rw [List.cons_append, List.singleton_append, decode_two (by rw [opLength, hrow, hlen]), decodeOp, hrow, hbuild,
    hfield]

end

/-- Settles O1, format by format (R91): an opcode with a field is in the row of the opcode whose field is 0, and that
row's reader undoes the encoder's field; an opcode without one is looked up as it stands. -/
theorem decodeEncodeRoundTrip : Obligations.DecodeEncodeRoundTrip := by
  intro i rest hwf
  cases i with
  | addAR r | addcAR r | anlAR r | orlAR r | xrlAR r | movAR r | movRA r | xchAR r | incR r | decR r =>
    exact decode_field_one (rowOf_append_regBits rfl) (regField_append _ r) rfl (fun _ _ => rfl) rest
  | movRImm r b2 | djnzR r b2 =>
    exact decode_field_two (rowOf_append_regBits rfl) (regField_append _ r) rfl (fun _ _ => rfl) b2 rest
  | addAInd r | addcAInd r | anlAInd r | orlAInd r | xrlAInd r | movAInd r | movIndA r | xchAInd r | xchdAInd r
  | movxAInd r | incInd r | movxIndA r =>
    exact decode_field_one (rowOf_append_ptrBits rfl) (ptrField_append _ r) rfl (fun _ _ => rfl) rest
  | movIndImm r b2 =>
    exact decode_field_two (rowOf_append_ptrBits rfl) (ptrField_append _ r) rfl (fun _ _ => rfl) b2 rest
  | movdAPp p | movdPpA p | orldPpA p | anldPpA p =>
    exact decode_field_one (rowOf_append_portBits rfl) (portField_append _ hwf) rfl (fun _ _ => rfl) rest
  | jbb b b2 =>
    exact decode_field_two (rowOf_highBits_append rfl) (bitField_append b _) rfl (fun _ _ => rfl) b2 rest
  | jmp a b2 | call a b2 =>
    exact decode_field_two (rowOf_highBits_append rfl) (aHiField_append a _) rfl (fun _ _ => rfl) b2 rest
  | _ => rfl

/-! ## Encoding what was decoded -/

/-- Row by row: a byte that matches is the pattern itself, or the pattern's fixed bits around the field read from it. -/
theorem encode_build : ∀ row ∈ opcodeRows, ∀ op b2 : Byte, op &&& row.mask = row.pattern →
    (row.build op b2).wf = true ∧ ((row.length = 1 ∧ encode (row.build op b2) = [op]) ∨
      (row.length = 2 ∧ encode (row.build op b2) = [op, b2])) := by
  simp only [opcodeRows, arithmeticRows, logicRows, moveRows, incRotateRows, branchRows, controlRows, timerIoRows,
    unsupportedRows, illegalRows, List.forall_mem_append, List.forall_mem_cons]
  simp +contextual [-BitVec.ofNat_finVal, Instr.wf, portOk_portField, encode, and_fullMask, append_regBits_of_mask,
    append_ptrBits_of_mask, append_portBits_of_mask, bitField_append_of_mask, aHiField_append_of_mask]

/-- Settles O2: the opcode byte matches the row it decodes by. -/
theorem encodeGivesDecodedBytesBack : Obligations.EncodeGivesDecodedBytesBack :=
  fun op b2 => encode_build (rowOf op) (rowOf_mem op) op b2 (rowOf_matches op)

theorem encode_decodeOp_one {op : Byte} (h : opLength op = 1) (b2 : Byte) : encode (decodeOp op b2) = [op] := by
  obtain ⟨-, ⟨-, hone⟩ | ⟨htwo, -⟩⟩ := encodeGivesDecodedBytesBack op b2
  · exact hone
  · omega

/-- R90: whatever byte follows a 1-byte opcode, the instruction encodes as that opcode, and a round trip leads from
there to the instruction decoded with no byte after it. -/
theorem decodeOp_operand {op : Byte} (h : opLength op = 1) (b2 : Byte) : decodeOp op b2 = decodeOp op 0 := by
  have hround := decodeEncodeRoundTrip (decodeOp op b2) [] (encodeGivesDecodedBytesBack op b2).1
  rw [encode_decodeOp_one h, List.append_nil, decode_one h] at hround
  injection hround with hinstr
  exact hinstr.symm

/-! ## Classes, lengths and costs -/

theorem illegalOpcodes_decode : ∀ p ∈ illegalOpcodes, opLength p.1 = 1 ∧ decodeOp p.1 0 = p.2 := by decide

/-- Settles O3: the illegal opcodes take no operand byte, so what follows is not read; the rest is counting. -/
theorem opcodeClassesCover : Obligations.OpcodeClassesCover := by
  refine ⟨fun p hp b2 => ?_, rfl, rfl, rfl⟩
  obtain ⟨hlen, hdecode⟩ := illegalOpcodes_decode p hp
  rw [decodeOp_operand hlen, hdecode]

/-- R94: an instruction with an operand byte takes a second cycle to fetch it. -/
theorem cycles_of_encode_two {i : Instr} {op b2 : Byte} (h : encode i = [op, b2]) : i.cycles = 2 := by
  cases i with
  | addAImm | addcAImm | anlAImm | orlAImm | xrlAImm | movAImm | movRImm | movIndImm | jbb | jc | jnc | jz | jnz | jf0
  | jf1 | jt0 | jnt0 | jt1 | jnt1 | jni | jtf | djnzR | jmp | call | anlP1Imm | anlP2Imm | orlP1Imm | orlP2Imm
  | orlBusImm | anlBusImm => rfl
  | _ => cases h

/-- Settles O4: the length is the row's; a 2-byte instruction costs 2 cycles, and a 1-byte one does not depend on the
byte after it, which leaves the 256 opcode bytes alone to look up. -/
theorem lengthsAndCyclesOfOpcodes : Obligations.LengthsAndCyclesOfOpcodes := by
  intro op b2
  constructor
  · clear b2
    revert op
    decide
  · obtain ⟨-, ⟨hlen, -⟩ | ⟨hlen, hencode⟩⟩ := encodeGivesDecodedBytesBack op b2
    · rw [decodeOp_operand hlen]
      clear b2
      revert op
      decide
    · rw [if_pos (.inl hlen), cycles_of_encode_two hencode]

end Sys2Proof.Machine

/-! PROOFS. The arithmetic rules: the adder and the decimal adjust as numbers, ADD, ADDC and DA A from them, and the
packed-BCD sum from what those instructions are proved to do; the words of the encodings stand first. -/

namespace Sys2Proof.Machine

/-! ## Encodings written as words -/

/-- Settles O5: the words are closed bytes, and decoding them is a look-up in the table of rows (R91). -/
theorem specEncodingsDecode : Obligations.SpecEncodingsDecode := rfl

/-- An instruction's bytes, in whatever form they are written, decode to it by the round trip (R91, R93). -/
theorem encoded_of_encode {i : Instr} {bytes : List Byte} {n : Nat} (hwf : i.wf = true) (hbytes : encode i = bytes)
    (hcycles : i.cycles = n) : Encoded i bytes n := by
  have hdecode := decodeEncodeRoundTrip i [] hwf
  rw [List.append_nil, hbytes] at hdecode
  exact ⟨hdecode, hcycles⟩

/-- An opcode with a register field is the opcode of register 0 plus the register number. -/
theorem append_regBits_eq_add (h : BitVec 5) (r : Fin 8) : h ++ regBits r = (h ++ 0#3) + BitVec.ofNat 8 r.val := by
  apply BitVec.eq_of_toNat_eq
  simp only [append_toNat, BitVec.toNat_add, BitVec.toNat_ofNat, regBits]
  omega

/-- An opcode with a pointer field is the opcode of pointer 0 plus the pointer number. -/
theorem append_ptrBits_eq_add (h : BitVec 7) (r : Fin 2) : h ++ ptrBits r = (h ++ 0#1) + BitVec.ofNat 8 r.val := by
  apply BitVec.eq_of_toNat_eq
  simp only [append_toNat, BitVec.toNat_add, BitVec.toNat_ofNat, ptrBits]
  omega

/-- An instruction with a register field: one opcode byte for each register, from that of R0 on. -/
theorem encoded_of_encode_reg (h : BitVec 5) {i : Instr} {r : Fin 8} {n : Nat} (hwf : i.wf = true)
    (hencode : encode i = [h ++ regBits r]) (hcycles : i.cycles = n) :
    Encoded i [(h ++ 0#3) + BitVec.ofNat 8 r.val] n :=
  encoded_of_encode hwf (by rw [hencode, append_regBits_eq_add]) hcycles

/-- An instruction with a pointer field: one opcode byte for each pointer register, from that of @R0 on. -/
theorem encoded_of_encode_ptr (h : BitVec 7) {i : Instr} {r : Fin 2} {n : Nat} (hwf : i.wf = true)
    (hencode : encode i = [h ++ ptrBits r]) (hcycles : i.cycles = n) :
    Encoded i [(h ++ 0#1) + BitVec.ofNat 8 r.val] n :=
  encoded_of_encode hwf (by rw [hencode, append_ptrBits_eq_add]) hcycles

/-! ## The adder -/

theorem State.addCore_result (s : State) (b : Byte) (c : Bool) : AddResult s (s.addCore b c) b c := by
  simp [AddResult, addSum, addNibbleSum]

/-- An instruction that adds in a state which differs from `s` in `pc` only does what R120 says, and no more. -/
theorem addInstr_result {s : State} {i : Instr} {b : Byte} {c : Bool} {pc : Addr}
    (h : exec i s = .next ({ s with pc := pc }.addCore b c)) :
    ∃ t, exec i s = .next t ∧ AddResult s t b c ∧ t.pc = pc ∧ ChangesAluPc s t :=
  ⟨_, h, State.addCore_result { s with pc := pc } b c, rfl, rfl, fun _ => rfl, fun _ => rfl⟩

/-- Settles O11: the six forms are the one adder, with their operand, carry-in and number of fetched bytes. -/
theorem addAndAddcResults : Obligations.AddAndAddcResults := by
  intro s
  exact ⟨fun _ => ⟨encoded_of_encode_reg 0b01101#5 rfl rfl rfl, addInstr_result rfl⟩,
    fun _ => ⟨encoded_of_encode_ptr 0b0110000#7 rfl rfl rfl, addInstr_result rfl⟩,
    fun _ => ⟨encoded_of_encode rfl rfl rfl, addInstr_result rfl⟩,
    fun _ => ⟨encoded_of_encode_reg 0b01111#5 rfl rfl rfl, addInstr_result rfl⟩,
    fun _ => ⟨encoded_of_encode_ptr 0b0111000#7 rfl rfl rfl, addInstr_result rfl⟩,
    fun _ => ⟨encoded_of_encode rfl rfl rfl, addInstr_result rfl⟩⟩

/-! ## The decimal adjust -/

theorem daLow_iff (a : Byte) (ac : Bool) : daLow a ac = true ↔ a.toNat % 16 > 9 ∨ ac = true := by
  simp [daLow]

theorem daAccLow_toNat (a : Byte) (ac : Bool) :
    (daAccLow a ac).toNat = if a.toNat % 16 > 9 ∨ ac = true then (a.toNat + 0x06) % 256 else a.toNat := by
  simp only [daAccLow, daLow_iff]
  split <;> simp

theorem daCyLow_iff (a : Byte) (cy ac : Bool) :
    daCyLow a cy ac = true ↔ cy = true ∨ ((a.toNat % 16 > 9 ∨ ac = true) ∧ a.toNat > 0xF9) := by
  simp [daCyLow, daLow_iff]

theorem daHigh_iff (a : Byte) (cy ac : Bool) :
    daHigh a cy ac = true ↔ (daAccLow a ac).toNat / 16 > 9 ∨ daCyLow a cy ac = true := by
  simp [daHigh]

/-- The high adjust of R127, on the accumulator and the carry that the low adjust leaves. -/
theorem State.decimalAdjust_high (s : State) :
    if (daAccLow s.acc s.ac).toNat / 16 > 9 ∨ daCyLow s.acc s.cy s.ac = true then
      s.decimalAdjust.acc.toNat = ((daAccLow s.acc s.ac).toNat + 0x60) % 256 ∧ s.decimalAdjust.cy = true
    else s.decimalAdjust.acc.toNat = (daAccLow s.acc s.ac).toNat ∧ s.decimalAdjust.cy = daCyLow s.acc s.cy s.ac := by
  simp only [← daHigh_iff, State.decimalAdjust_acc, State.decimalAdjust_cy]
  split <;> simp_all

/-- Settles O12: the low adjust as a number, then the high adjust on what it leaves. -/
theorem decimalAdjustResult : Obligations.DecimalAdjustResult := fun s =>
  ⟨encoded_of_encode rfl rfl rfl, s.advance.decimalAdjust, (daAccLow s.acc s.ac).toNat, daCyLow s.acc s.cy s.ac, rfl,
    daAccLow_toNat s.acc s.ac, daCyLow_iff s.acc s.cy s.ac, s.advance.decimalAdjust_high, rfl, rfl, fun _ => rfl,
    fun _ => rfl⟩

/-! ## Packed-BCD addition

`x` and `y` are the numbers added; the adder sees the packed numbers `x / 10 * 16 + x % 10` and
`y / 10 * 16 + y % 10`. -/

theorem bcd_toNat {n : Nat} (h : n < 100) : (bcd n).toNat = n / 10 * 16 + n % 10 := by
  rw [bcd, BitVec.toNat_ofNat]
  omega

/-- After the addition of two packed bytes the low adjust applies exactly if the units carry in decimal: a units sum of
10 to 15 stays in the low nibble, and one above 15 sets `ac`. -/
theorem AddResult.lowAdjust_iff {s t : State} {b : Byte} {x y : Nat} (h : AddResult s t b false) (hx : x < 100)
    (hy : y < 100) (hs : s.acc = bcd x) (hb : b = bcd y) :
    (t.acc.toNat % 16 > 9 ∨ t.ac = true) ↔ x % 10 + y % 10 > 9 := by
  obtain ⟨hacc, -, hac⟩ := h
  rw [hs, hb, bcd_toNat hx, bcd_toNat hy, Bool.toNat_false] at hacc hac
  rw [hac]
  omega

/-- The low adjust leaves in `c1` and `a1` the units digit of `x + y` below the count of its tens, up to 19. -/
theorem AddResult.lowAdjust_packed {s t : State} {b : Byte} {x y a1 : Nat} {c1 : Bool} (h : AddResult s t b false)
    (hx : x < 100) (hy : y < 100) (hs : s.acc = bcd x) (hb : b = bcd y)
    (ha1 : a1 = if t.acc.toNat % 16 > 9 ∨ t.ac = true then (t.acc.toNat + 0x06) % 256 else t.acc.toNat)
    (hc1 : c1 = true ↔ t.cy = true ∨ ((t.acc.toNat % 16 > 9 ∨ t.ac = true) ∧ t.acc.toNat > 0xF9)) :
    a1 + 256 * c1.toNat = (x + y) / 10 * 16 + (x + y) % 10 := by
  simp only [h.lowAdjust_iff hx hy hs hb] at ha1 hc1
  obtain ⟨hacc, hcy, -⟩ := h
  rw [hs, hb, bcd_toNat hx, bcd_toNat hy, Bool.toNat_false] at hacc hcy
  rw [hcy] at hc1
  cases c1 with
  | false =>
    simp only [Bool.false_eq_true, false_iff] at hc1
    rw [Bool.toNat_false]
    split at ha1 <;> omega
  | true =>
    simp only [true_iff] at hc1
    rw [Bool.toNat_true]
    split at ha1 <;> omega

/-- The high adjust applies exactly if the count of tens that the low adjust leaves exceeds 9. -/
theorem highAdjust_iff {a1 tens units : Nat} {c1 : Bool} (h : a1 + 256 * c1.toNat = tens * 16 + units)
    (hunits : units < 10) : (a1 / 16 > 9 ∨ c1 = true) ↔ tens > 9 := by
  cases c1 with
  | false =>
    simp only [Bool.false_eq_true, or_false]
    rw [Bool.toNat_false] at h
    omega
  | true =>
    simp only [or_true, true_iff]
    rw [Bool.toNat_true] at h
    omega

/-- Settles O13, from O11 for the addition and O12 for the adjust: the high adjust takes 10 tens off the count and sets
the carry, which is then the hundred. -/
theorem decimalAdjustAfterAddIsBcdSum : Obligations.DecimalAdjustAfterAddIsBcdSum := by
  intro s r x y hx hy hs hr
  obtain ⟨hadd, -⟩ := addAndAddcResults s
  obtain ⟨-, t, ht, hsum, -⟩ := hadd r
  obtain ⟨-, u, a1, c1, hu, ha1, hc1, hhigh, -⟩ := decimalAdjustResult t
  have hpacked := hsum.lowAdjust_packed hx hy hs hr ha1 hc1
  have hcond := highAdjust_iff hpacked (Nat.mod_lt _ (by decide))
  refine ⟨t, u, ht, hu, ?_⟩
  have htensDigit : (x + y) % 100 / 10 = (x + y) / 10 % 10 := by omega
  have hunitsDigit : (x + y) % 100 % 10 = (x + y) % 10 := by omega
  rw [← BitVec.toNat_inj, bcd_toNat (Nat.mod_lt _ (by decide)), htensDigit, hunitsDigit]
  split at hhigh
  next happly =>
    obtain ⟨hacc, hcy⟩ := hhigh
    have htens := hcond.mp happly
    have htake : (x + y) / 10 % 10 = (x + y) / 10 - 10 := by omega
    exact ⟨by omega, iff_of_true hcy (by omega)⟩
  next hskip =>
    obtain ⟨hacc, hcy⟩ := hhigh
    have htens := mt hcond.mpr hskip
    have hcarry : c1 = false := Bool.eq_false_iff.mpr fun h => hskip (.inr h)
    rw [hcarry, Bool.toNat_false] at hpacked
    exact ⟨by omega, iff_of_false (by simp [hcy, hcarry]) (by omega)⟩

end Sys2Proof.Machine

/-! PROOFS. The logic rules: what an instruction that only loads the accumulator does and leaves, and ANL, ORL, XRL,
CLR A and CPL A as such loads. -/

namespace Sys2Proof.Machine

/-- An instruction that loads `acc` with `v` in a state which differs from `s` in `pc` only changes nothing else. -/
theorem accInstr_result {s : State} {i : Instr} {v : Byte} {pc : Addr}
    (h : exec i s = .next ({ s with pc := pc }.setAcc v)) :
    ∃ t, exec i s = .next t ∧ t.acc = v ∧ t.pc = pc ∧ ChangesAccPc s t :=
  ⟨_, h, State.setAcc_acc _ v, State.setAcc_pc _ v, rfl, fun _ => rfl, fun _ => rfl⟩

/-- Settles O14: the eleven instructions load the accumulator with a bitwise function of it and of their operand; the
three operand forms differ in the opcode field and in the number of fetched bytes. -/
theorem logicResults : Obligations.LogicResults := by
  intro s
  refine ⟨fun _ => ⟨?anlReg, ?orlReg, ?xrlReg⟩, fun _ => ⟨?anlInd, ?orlInd, ?xrlInd⟩,
    fun _ => ⟨?anlImm, ?orlImm, ?xrlImm⟩, ?clr, ?cpl⟩
  case anlReg => exact ⟨encoded_of_encode_reg 0b01011#5 rfl rfl rfl, accInstr_result rfl⟩
  case orlReg => exact ⟨encoded_of_encode_reg 0b01001#5 rfl rfl rfl, accInstr_result rfl⟩
  case xrlReg => exact ⟨encoded_of_encode_reg 0b11011#5 rfl rfl rfl, accInstr_result rfl⟩
  case anlInd => exact ⟨encoded_of_encode_ptr 0b0101000#7 rfl rfl rfl, accInstr_result rfl⟩
  case orlInd => exact ⟨encoded_of_encode_ptr 0b0100000#7 rfl rfl rfl, accInstr_result rfl⟩
  case xrlInd => exact ⟨encoded_of_encode_ptr 0b1101000#7 rfl rfl rfl, accInstr_result rfl⟩
  case anlImm | orlImm | xrlImm | clr | cpl => exact ⟨encoded_of_encode rfl rfl rfl, accInstr_result rfl⟩

end Sys2Proof.Machine

/-! PROOFS. The move rules: the nibbles and pages that they form as bits and numbers, what an instruction that stores
one data byte does and leaves, and the loads, the stores and the exchanges. -/

namespace Sys2Proof.Machine

/-! ## Nibbles and pages -/

/-- The byte that SWAP A forms has each bit four places from where it was (R170). -/
theorem swapNibbles_getLsbD (a : Byte) (k : Fin 8) :
    (a.extractLsb' 0 4 ++ a.extractLsb' 4 4).getLsbD k.val = a.getLsbD ((k.val + 4) % 8) := by
  rw [BitVec.getLsbD_append, BitVec.getLsbD_extractLsb', BitVec.getLsbD_extractLsb']
  by_cases hlow : k.val < 4
  · have hsource : (k.val + 4) % 8 = 4 + k.val := by omega
    simp [hlow, hsource]
  · have hsource : (k.val + 4) % 8 = k.val - 4 := by omega
    have hhigh : k.val - 4 < 4 := by omega
    simp [hlow, hhigh, hsource]

theorem joinNibbles_toNat (hi lo : Byte) : (joinNibbles hi lo).toNat = hi.toNat / 16 * 16 + lo.toNat % 16 := by
  simp only [joinNibbles, append_toNat, BitVec.extractLsb'_toNat, Nat.shiftRight_eq_div_pow]
  omega

/-- What MOVP and MOVP3 read: the program byte `lo` of the page of `a` (R171, R172). -/
theorem State.readProg_inPage (s : State) (a : Addr) (lo : Byte) :
    s.readProg (inPage a lo) = s.prog.read (a.toNat / 256 * 256 + lo.toNat) :=
  congrArg s.prog.read (inPage_toNat a lo)

/-! ## Instructions that store one data byte -/

theorem State.writeData_storesOnly (s : State) (a : Nat) (v : Byte) : StoresOnly [a] s (s.writeData a v) :=
  ⟨fun _ hb => Memory.read_write_other _ v (List.ne_of_not_mem_cons hb), fun _ => rfl⟩

/-- An instruction that stores `v` at `a` in a state which differs from `s` in `pc` only changes nothing else. -/
theorem storeInstr_result {s : State} {i : Instr} {a : Nat} {v : Byte} {pc : Addr}
    (h : exec i s = .next ({ s with pc := pc }.writeData a v)) :
    ∃ t, exec i s = .next t ∧ StoresByte a v s t ∧ t.pc = pc :=
  ⟨_, h, ⟨rfl, Memory.read_write_same _ a v, State.writeData_storesOnly { s with pc := pc } a v⟩, rfl⟩

/-- The same for one that then loads `acc` with `w`. -/
theorem exchangeInstr_result {s : State} {i : Instr} {a : Nat} {v w : Byte} {pc : Addr}
    (h : exec i s = .next (({ s with pc := pc }.writeData a v).setAcc w)) :
    ∃ t, exec i s = .next t ∧ t.acc = w ∧ StoresByteAndAcc a v s t ∧ t.pc = pc :=
  ⟨_, h, rfl, ⟨rfl, Memory.read_write_same _ a v, State.writeData_storesOnly { s with pc := pc } a v⟩, rfl⟩

/-! ## The loads, the stores and the exchanges -/

/-- Settles O15: each loads the accumulator with one byte; SWAP A is then described bit by bit, and the program byte of
MOVP and MOVP3 by its address as a number. -/
theorem accumulatorLoads : Obligations.AccumulatorLoads := by
  intro s
  refine ⟨fun _ => ⟨encoded_of_encode_reg 0b11111#5 rfl rfl rfl, accInstr_result rfl⟩,
    fun _ => ⟨encoded_of_encode_ptr 0b1111000#7 rfl rfl rfl, accInstr_result rfl⟩,
    fun _ => ⟨encoded_of_encode rfl rfl rfl, accInstr_result rfl⟩,
    ⟨encoded_of_encode rfl rfl rfl, ?swap⟩, ⟨encoded_of_encode rfl rfl rfl, ?movp⟩,
    ⟨encoded_of_encode rfl rfl rfl, ?movp3⟩,
    fun _ => ⟨encoded_of_encode_ptr 0b1000000#7 rfl rfl rfl, accInstr_result rfl⟩⟩
  case swap =>
    obtain ⟨t, ht, hacc, hrest⟩ := accInstr_result (s := s) (i := .swapA) rfl
    exact ⟨t, ht, fun k => by rw [hacc, swapNibbles_getLsbD], hrest⟩
  case movp =>
    obtain ⟨t, ht, hacc, hrest⟩ := accInstr_result (s := s) (i := .movpAAtA) rfl
    exact ⟨t, ht, hacc.trans (s.readProg_inPage (pcAfter1 s) s.acc), hrest⟩
  case movp3 =>
    obtain ⟨t, ht, hacc, hrest⟩ := accInstr_result (s := s) (i := .movp3AAtA) rfl
    exact ⟨t, ht, hacc.trans (s.readProg_inPage 0x300 s.acc), hrest⟩

/-- Settles O16: the fetch before the store changes neither the register bank nor the pointer, so the address is that of
the state before. -/
theorem stores : Obligations.Stores := by
  intro s
  exact ⟨fun _ => ⟨encoded_of_encode_reg 0b10101#5 rfl rfl rfl, storeInstr_result rfl⟩,
    fun _ => ⟨encoded_of_encode_ptr 0b1010000#7 rfl rfl rfl, storeInstr_result rfl⟩,
    fun r d => ⟨encoded_of_encode rfl (congrArg ([·, d]) (append_regBits_eq_add 0b10111#5 r)) rfl,
      storeInstr_result rfl⟩,
    fun r d => ⟨encoded_of_encode rfl (congrArg ([·, d]) (append_ptrBits_eq_add 0b1011000#7 r)) rfl,
      storeInstr_result rfl⟩⟩

/-- Settles O17: the byte goes to `acc` as it was before the store; XCHD joins the nibbles of the two both ways. -/
theorem exchanges : Obligations.Exchanges := by
  intro s
  refine ⟨fun _ => ⟨encoded_of_encode_reg 0b00101#5 rfl rfl rfl, exchangeInstr_result rfl⟩,
    fun _ => ⟨encoded_of_encode_ptr 0b0010000#7 rfl rfl rfl, exchangeInstr_result rfl⟩,
    fun r => ⟨encoded_of_encode_ptr 0b0011000#7 rfl rfl rfl, ?xchd⟩⟩
  obtain ⟨t, ht, hacc, hrest⟩ := exchangeInstr_result (s := s) (i := .xchdAInd r) rfl
  exact ⟨t, joinNibbles (s.atInd r) s.acc, ht, by rw [hacc, joinNibbles_toNat], joinNibbles_toNat _ _, hrest⟩

end Sys2Proof.Machine

/-! PROOFS. The increment, decrement and rotate rules: INC and DEC as numbers modulo 256, each rotate as a rotation of
its ring of bits, and the rings after as many rotates as they have bits. -/

namespace Sys2Proof.Machine

/-! ## Increments and decrements -/

theorem increment_toNat (v : Byte) : (v + 1).toNat = (v.toNat + 1) % 256 := BitVec.toNat_add v 1

theorem decrement_toNat (v : Byte) : (v - 1).toNat = (v.toNat + 255) % 256 := by
  rw [BitVec.toNat_sub, Nat.add_comm]
  rfl

/-- Settles O18: each loads or stores one incremented or decremented byte; the fetch before the store changes
neither the register bank nor the pointer. -/
theorem incrementDecrementResults : Obligations.IncrementDecrementResults := by
  intro s
  refine ⟨⟨encoded_of_encode rfl rfl rfl, ?incA⟩, ⟨encoded_of_encode rfl rfl rfl, ?decA⟩,
    fun r => ⟨encoded_of_encode_reg 0b00011#5 rfl rfl rfl, ?incReg⟩,
    fun r => ⟨encoded_of_encode_reg 0b11001#5 rfl rfl rfl, ?decReg⟩,
    fun r => ⟨encoded_of_encode_ptr 0b0001000#7 rfl rfl rfl, ?incInd⟩⟩
  case incA =>
    obtain ⟨t, ht, hacc, hrest⟩ := accInstr_result (s := s) (i := .incA) rfl
    exact ⟨t, ht, hacc ▸ increment_toNat s.acc, hrest⟩
  case decA =>
    obtain ⟨t, ht, hacc, hrest⟩ := accInstr_result (s := s) (i := .decA) rfl
    exact ⟨t, ht, hacc ▸ decrement_toNat s.acc, hrest⟩
  case incReg =>
    obtain ⟨t, ht, hstore⟩ := storeInstr_result (s := s) (i := .incR r) rfl
    exact ⟨t, _, ht, increment_toNat (s.reg r), hstore⟩
  case decReg =>
    obtain ⟨t, ht, hstore⟩ := storeInstr_result (s := s) (i := .decR r) rfl
    exact ⟨t, _, ht, decrement_toNat (s.reg r), hstore⟩
  case incInd =>
    obtain ⟨t, ht, hstore⟩ := storeInstr_result (s := s) (i := .incInd r) rfl
    exact ⟨t, _, ht, increment_toNat (s.atInd r), hstore⟩

/-! ## Rotations by one place -/

section
variable {n : Nat}

theorem getLsbD_rotateLeft_one (x : BitVec n) {k : Nat} (hk : k < n) :
    (x.rotateLeft 1).getLsbD ((k + 1) % n) = x.getLsbD k := by
  rcases Nat.lt_or_eq_of_le (Nat.succ_le_of_lt hk) with hlt | rfl
  · have hone : 1 % n = 1 := Nat.mod_eq_of_lt (by omega)
    rw [BitVec.getLsbD_rotateLeft, hone, Nat.mod_eq_of_lt hlt]
    simp [hlt]
  · cases k <;> simp [Nat.mod_self]

theorem getLsbD_rotateRight_one (x : BitVec n) {k : Nat} (hk : k < n) :
    (x.rotateRight 1).getLsbD k = x.getLsbD ((k + 1) % n) := by
  rcases Nat.lt_or_eq_of_le (Nat.succ_le_of_lt hk) with hlt | rfl
  · have hone : 1 % n = 1 := Nat.mod_eq_of_lt (by omega)
    have hlow : k < n - 1 := by omega
    simp [BitVec.getLsbD_rotateRight, hone, Nat.mod_eq_of_lt hlt, hlow, Nat.add_comm]
  · cases k <;> simp [Nat.mod_self]

theorem rotateRight_one_rotateLeft_one (x : BitVec n) : (x.rotateLeft 1).rotateRight 1 = x :=
  BitVec.eq_of_getLsbD_eq fun _ hk => (getLsbD_rotateRight_one _ hk).trans (getLsbD_rotateLeft_one x hk)

theorem eq_rotateRight_one_of_rotateLeft_one {x y : BitVec n} (h : y.rotateLeft 1 = x) : y = x.rotateRight 1 := by
  rw [← h, rotateRight_one_rotateLeft_one]

theorem getLsbD_iterate_rotateLeft_one (x : BitVec n) {k : Nat} (hk : k < n) (m : Nat) :
    ((BitVec.rotateLeft · 1)^[m] x).getLsbD ((k + m) % n) = x.getLsbD k := by
  induction m with
  | zero => rw [Function.iterate_zero_apply, Nat.add_zero, Nat.mod_eq_of_lt hk]
  | succ m ih =>
    have hplace : (k + m) % n < n := Nat.mod_lt _ (Nat.zero_lt_of_lt hk)
    rw [Function.iterate_succ_apply', ← Nat.add_assoc, ← Nat.mod_add_mod, getLsbD_rotateLeft_one _ hplace, ih]

theorem iterate_rotateLeft_one_width (x : BitVec n) : (BitVec.rotateLeft · 1)^[n] x = x :=
  BitVec.eq_of_getLsbD_eq fun k hk => by
    simpa [Nat.mod_eq_of_lt hk] using getLsbD_iterate_rotateLeft_one x hk n

/-- A rotation to the right undoes one to the left, so it has the same period. -/
theorem iterate_rotateRight_one_width (x : BitVec n) : (BitVec.rotateRight · 1)^[n] x = x :=
  calc (BitVec.rotateRight · 1)^[n] x
    _ = (BitVec.rotateRight · 1)^[n] ((BitVec.rotateLeft · 1)^[n] x) := by rw [iterate_rotateLeft_one_width]
    _ = x := Function.LeftInverse.iterate (g := (BitVec.rotateRight · 1)) rotateRight_one_rotateLeft_one n x

/-- The top bit goes below the others; the cast only swaps the two widths in their sum. -/
theorem rotateLeft_one_topBit_append (b : BitVec 1) (l : BitVec (n + 1)) :
    ((b ++ l).cast (Nat.add_comm 1 (n + 1))).rotateLeft 1 = l ++ b := by
  apply BitVec.eq_of_getLsbD_eq
  intro k hk
  rw [BitVec.getLsbD_append]
  cases k with
  | zero => simp [BitVec.getElem_append]
  | succ k =>
    have hlow : k < n + 1 := Nat.lt_of_succ_lt_succ hk
    simp [BitVec.getElem_append, hlow, Nat.le_of_lt_succ hlow]

theorem ofBool_getLsbD (x : BitVec n) (k : Nat) : BitVec.ofBool (x.getLsbD k) = x.extractLsb' k 1 := by
  apply BitVec.eq_of_getLsbD_eq
  intro j hj
  obtain rfl : j = 0 := by omega
  simp

end

/-! ## The ring of the carry and the accumulator -/

/-- The 9-bit ring `cy ++ acc` that RLC and RRC rotate (R186, R188). -/
def State.carryRing (s : State) : BitVec 9 := BitVec.ofBool s.cy ++ s.acc

theorem State.carryRing_getLsbD (s : State) {k : Nat} (hk : k < 8) : s.carryRing.getLsbD k = s.acc.getLsbD k := by
  rw [State.carryRing, BitVec.getLsbD_append, if_pos hk]

theorem State.carryRing_getLsbD_top (s : State) : s.carryRing.getLsbD 8 = s.cy := by
  rw [State.carryRing, BitVec.getLsbD_append, if_neg (by decide), BitVec.getLsbD_ofBool]
  rfl

theorem State.acc_cy_eq_of_carryRing_eq {s t : State} (h : t.carryRing = s.carryRing) :
    t.acc = s.acc ∧ t.cy = s.cy := by
  constructor
  · simpa only [State.carryRing, BitVec.extractLsb'_append_eq_right] using congrArg (BitVec.extractLsb' 0 8) h
  · rw [← t.carryRing_getLsbD_top, h, s.carryRing_getLsbD_top]

/-- RLC puts the carry, the top bit of the ring, below the accumulator (R186). -/
theorem State.rotateLeftCarry_carryRing (s : State) : s.rotateLeftCarry.carryRing = s.carryRing.rotateLeft 1 :=
  calc s.rotateLeftCarry.carryRing
    _ = s.acc.extractLsb' 7 1 ++ (s.acc.extractLsb' 0 7 ++ BitVec.ofBool s.cy) :=
      congrArg (· ++ s.rotateLeftCarry.acc) (ofBool_getLsbD s.acc 7)
    _ = (s.acc.extractLsb' 7 1 ++ s.acc.extractLsb' 0 7) ++ BitVec.ofBool s.cy := BitVec.append_assoc.symm
    _ = s.acc ++ BitVec.ofBool s.cy := congrArg (· ++ BitVec.ofBool s.cy) BitVec.extractLsb'_append_extractLsb'
    _ = s.carryRing.rotateLeft 1 := (rotateLeft_one_topBit_append (BitVec.ofBool s.cy) s.acc).symm

/-- RRC is a rotation of the ring to the right, for one to the left takes its result back to `cy ++ acc` (R188). -/
theorem State.rotateRightCarry_carryRing (s : State) : s.rotateRightCarry.carryRing = s.carryRing.rotateRight 1 := by
  apply eq_rotateRight_one_of_rotateLeft_one
  calc s.rotateRightCarry.carryRing.rotateLeft 1
    _ = (BitVec.ofBool s.cy ++ s.acc.extractLsb' 1 7) ++ BitVec.ofBool (s.acc.getLsbD 0) :=
      rotateLeft_one_topBit_append _ _
    _ = (BitVec.ofBool s.cy ++ s.acc.extractLsb' 1 7) ++ s.acc.extractLsb' 0 1 := by rw [ofBool_getLsbD]
    _ = BitVec.ofBool s.cy ++ (s.acc.extractLsb' 1 7 ++ s.acc.extractLsb' 0 1) := BitVec.append_assoc
    _ = s.carryRing := congrArg (BitVec.ofBool s.cy ++ ·) BitVec.extractLsb'_append_extractLsb'

/-- RL A forms the rotation of `acc` to the left (R185). -/
theorem lowBits_append_topBit (x : Byte) : x.extractLsb' 0 7 ++ x.extractLsb' 7 1 = x.rotateLeft 1 :=
  calc x.extractLsb' 0 7 ++ x.extractLsb' 7 1
    _ = (x.extractLsb' 7 1 ++ x.extractLsb' 0 7).rotateLeft 1 := (rotateLeft_one_topBit_append _ _).symm
    _ = x.rotateLeft 1 := congrArg (BitVec.rotateLeft · 1) BitVec.extractLsb'_append_extractLsb'

/-- RR A forms the rotation of `acc` to the right (R187). -/
theorem bottomBit_append_highBits (x : Byte) : x.extractLsb' 0 1 ++ x.extractLsb' 1 7 = x.rotateRight 1 :=
  eq_rotateRight_one_of_rotateLeft_one <|
  calc (x.extractLsb' 0 1 ++ x.extractLsb' 1 7).rotateLeft 1
    _ = x.extractLsb' 1 7 ++ x.extractLsb' 0 1 := rotateLeft_one_topBit_append _ _
    _ = x := BitVec.extractLsb'_append_extractLsb'

/-! ## The rotates -/

theorem rlA_result (s : State) :
    ∃ t, exec .rlA s = .next t ∧ t.acc = s.acc.rotateLeft 1 ∧ t.pc = pcAfter1 s ∧ ChangesAccPc s t :=
  accInstr_result (lowBits_append_topBit s.acc ▸ rfl)

theorem rrA_result (s : State) :
    ∃ t, exec .rrA s = .next t ∧ t.acc = s.acc.rotateRight 1 ∧ t.pc = pcAfter1 s ∧ ChangesAccPc s t :=
  accInstr_result (bottomBit_append_highBits s.acc ▸ rfl)

theorem rlcA_result (s : State) :
    ∃ t, exec .rlcA s = .next t ∧ t.carryRing = s.carryRing.rotateLeft 1 ∧ t.pc = pcAfter1 s ∧ ChangesAccCyPc s t :=
  ⟨_, rfl, State.rotateLeftCarry_carryRing s.advance, rfl, rfl, fun _ => rfl, fun _ => rfl⟩

theorem rrcA_result (s : State) :
    ∃ t, exec .rrcA s = .next t ∧ t.carryRing = s.carryRing.rotateRight 1 ∧ t.pc = pcAfter1 s ∧ ChangesAccCyPc s t :=
  ⟨_, rfl, State.rotateRightCarry_carryRing s.advance, rfl, rfl, fun _ => rfl, fun _ => rfl⟩

/-- If each bit of the ring of `s` stands one place further left in that of `t`, so do the bits of `acc` and `cy`. -/
theorem acc_cy_of_carryRing {s t : State}
    (hring : ∀ {k : Nat}, k < 9 → t.carryRing.getLsbD ((k + 1) % 9) = s.carryRing.getLsbD k) :
    (∀ k : Fin 7, t.acc.getLsbD (k.val + 1) = s.acc.getLsbD k.val) ∧ t.acc.getLsbD 0 = s.cy ∧
      t.cy = s.acc.getLsbD 7 := by
  refine ⟨fun k => ?inner, ?bottom, ?top⟩
  case inner =>
    have hk := hring (k := k.val) (by omega)
    rwa [Nat.mod_eq_of_lt (by omega), t.carryRing_getLsbD (by omega), s.carryRing_getLsbD (by omega)] at hk
  case bottom =>
    rw [← s.carryRing_getLsbD_top, ← t.carryRing_getLsbD (by decide)]
    exact hring (k := 8) (by decide)
  case top =>
    rw [← t.carryRing_getLsbD_top, ← s.carryRing_getLsbD (by decide)]
    exact hring (k := 7) (by decide)

/-- Settles O19: each rotate is a rotation of its ring by one place, which is then read bit by bit. -/
theorem rotateResults : Obligations.RotateResults := by
  intro s
  refine ⟨⟨encoded_of_encode rfl rfl rfl, ?rl⟩, ⟨encoded_of_encode rfl rfl rfl, ?rr⟩,
    ⟨encoded_of_encode rfl rfl rfl, ?rlc⟩, ⟨encoded_of_encode rfl rfl rfl, ?rrc⟩⟩
  case rl =>
    obtain ⟨t, ht, hacc, hrest⟩ := rlA_result s
    exact ⟨t, ht, fun k => hacc ▸ getLsbD_rotateLeft_one s.acc k.isLt, hrest⟩
  case rr =>
    obtain ⟨t, ht, hacc, hrest⟩ := rrA_result s
    exact ⟨t, ht, fun k => hacc ▸ getLsbD_rotateRight_one s.acc k.isLt, hrest⟩
  case rlc =>
    obtain ⟨t, ht, hring, hrest⟩ := rlcA_result s
    obtain ⟨hinner, hbottom, htop⟩ := acc_cy_of_carryRing fun hk => hring ▸ getLsbD_rotateLeft_one s.carryRing hk
    exact ⟨t, ht, hinner, hbottom, htop, hrest⟩
  case rrc =>
    obtain ⟨t, ht, hring, hrest⟩ := rrcA_result s
    obtain ⟨hinner, hbottom, htop⟩ := acc_cy_of_carryRing (s := t) (t := s) fun hk =>
      hring ▸ (getLsbD_rotateRight_one s.carryRing hk).symm
    exact ⟨t, ht, fun k => (hinner k).symm, htop.symm, hbottom.symm, hrest⟩

/-! ## Rotates in a row -/

/-- If each `i` answers next and applies `f` to a view of the state, then `n` in a row apply it `n` times. -/
theorem execTimes_iterate {α : Type} {i : Instr} {view : State → α} {f : α → α}
    (hstep : ∀ s, ∃ t, exec i s = .next t ∧ view t = f (view s)) (n : Nat) (s : State) :
    ∃ t, execTimes i n s = .next t ∧ view t = f^[n] (view s) := by
  induction n generalizing s with
  | zero => exact ⟨s, rfl, rfl⟩
  | succ n ih =>
    obtain ⟨u, hu, hview⟩ := hstep s
    obtain ⟨t, ht, htview⟩ := ih u
    refine ⟨t, ?_, by rw [htview, hview, Function.iterate_succ_apply]⟩
    simp only [execTimes, hu, ht]

/-- A view of which `f` has period `n` is restored. -/
theorem execTimes_restores {α : Type} {i : Instr} {view : State → α} {f : α → α} {n : Nat}
    (hstep : ∀ s, ∃ t, exec i s = .next t ∧ view t = f (view s)) (hperiod : ∀ x, f^[n] x = x) (s : State) :
    ∃ t, execTimes i n s = .next t ∧ view t = view s := by
  simpa only [hperiod] using execTimes_iterate hstep n s

theorem ChangesAccPc.cy_eq {s t : State} (h : ChangesAccPc s t) : t.cy = s.cy := by
  rw [h.1]

/-- An instruction that applies a function of period `n` to `acc` and changes nothing else but `pc`. -/
theorem execTimes_restores_acc {i : Instr} {f : Byte → Byte} {n : Nat}
    (hstep : ∀ s, ∃ t, exec i s = .next t ∧ t.acc = f s.acc ∧ t.pc = pcAfter1 s ∧ ChangesAccPc s t)
    (hperiod : ∀ x, f^[n] x = x) (s : State) :
    ∃ t, execTimes i n s = .next t ∧ t.acc = s.acc ∧ t.cy = s.cy := by
  have hview (s : State) : ∃ t, exec i s = .next t ∧ (t.acc, t.cy) = Prod.map f id (s.acc, s.cy) := by
    obtain ⟨t, ht, hacc, -, hframe⟩ := hstep s
    exact ⟨t, ht, Prod.ext hacc hframe.cy_eq⟩
  obtain ⟨t, ht, hrestored⟩ := execTimes_restores (view := fun s => (s.acc, s.cy)) (n := n) hview
    (fun x => by rw [Prod.map_iterate, Function.iterate_id, Prod.map, hperiod]; rfl) s
  exact ⟨t, ht, congrArg Prod.fst hrestored, congrArg Prod.snd hrestored⟩

/-- An instruction that applies a function of period `n` to the ring `cy ++ acc`. -/
theorem execTimes_restores_carryRing {i : Instr} {f : BitVec 9 → BitVec 9} {n : Nat}
    (hstep : ∀ s, ∃ t, exec i s = .next t ∧ t.carryRing = f s.carryRing ∧ t.pc = pcAfter1 s ∧ ChangesAccCyPc s t)
    (hperiod : ∀ x, f^[n] x = x) (s : State) :
    ∃ t, execTimes i n s = .next t ∧ t.acc = s.acc ∧ t.cy = s.cy := by
  have hview (s : State) : ∃ t, exec i s = .next t ∧ t.carryRing = f s.carryRing := by
    obtain ⟨t, ht, hring, -⟩ := hstep s
    exact ⟨t, ht, hring⟩
  obtain ⟨t, ht, hring⟩ := execTimes_restores hview hperiod s
  exact ⟨t, ht, State.acc_cy_eq_of_carryRing_eq hring⟩

/-- Settles O20: a rotation by one place has the width of its ring as its period, to either side. -/
theorem rotatesAreRings : Obligations.RotatesAreRings := fun s =>
  ⟨execTimes_restores_acc rlA_result iterate_rotateLeft_one_width s,
    execTimes_restores_acc rrA_result iterate_rotateRight_one_width s,
    execTimes_restores_carryRing rlcA_result iterate_rotateLeft_one_width s,
    execTimes_restores_carryRing rrcA_result iterate_rotateRight_one_width s⟩

end Sys2Proof.Machine

/-! PROOFS. The branch rules: the words of the branch encodings and the numbers that `sp` takes, the conditional jumps
and DJNZ as one write of `pc`, the unconditional jumps, what a push stores and a pop reads, and from those CALL, RET and
RETR; at the end a RET after a CALL, and the return address of the polled-JNI quirk. -/

namespace Sys2Proof.Machine

/-! ## Encodings with a field in the high bits -/

/-- An opcode with a field above its fixed bits is the opcode of field 0 plus the field's multiple of 0x20. -/
theorem highBits_append_eq_add (x : BitVec 3) (l : BitVec 5) : x ++ l = (0#3 ++ l) + 0x20 * x.setWidth 8 := by
  have hstep : (0x20 : Byte).toNat = 0x20 := rfl
  apply BitVec.eq_of_toNat_eq
  simp only [append_toNat, BitVec.toNat_add, BitVec.toNat_mul, BitVec.toNat_setWidth, BitVec.toNat_ofNat, hstep]
  omega

theorem setWidth_regBits (r : Fin 8) : (regBits r).setWidth 8 = BitVec.ofNat 8 r.val := by
  apply BitVec.eq_of_toNat_eq
  simp only [regBits, BitVec.toNat_setWidth, BitVec.toNat_ofNat]
  omega

/-- A 2-byte instruction with a field in the high bits (formats JB and J11): one opcode byte for each value of it. -/
theorem encoded_of_encode_highBits (l : BitVec 5) {i : Instr} {x : BitVec 3} {b2 : Byte} {n : Nat}
    (hwf : i.wf = true) (hencode : encode i = [x ++ l, b2]) (hcycles : i.cycles = n) :
    Encoded i [(0#3 ++ l) + 0x20 * x.setWidth 8, b2] n :=
  encoded_of_encode hwf (by rw [hencode, highBits_append_eq_add]) hcycles

/-! ## Conditional jumps -/

/-- Every write of `pc` but RETR's and the quirk's is reduced (R26). -/
theorem State.setPc_pc_toNat (s : State) (v : Addr) : (s.setPc v).pc.toNat = v.toNat % pcLimit s := maskPc_toNat _ _

/-- R200: a conditional jump goes to the operand in the page of the operand byte, or to the next instruction. -/
theorem State.advance_condJump_jumpsTo (s : State) (c : Bool) (a : Byte) :
    JumpsTo s (s.advance.condJump c a) c a := by
  rcases s.advance.condJump_cases c a with ⟨rfl, h⟩ | ⟨rfl, h⟩ <;> rw [h]
  · exact (s.advance.advance.setPc_pc_toNat _).trans (congrArg (· % pcLimit s) (inPage_toNat _ a))
  · rfl

/-- A conditional jump after the effect that leads from `s` to `u` is one write of `pc` in `u`. -/
theorem condJumpInstr_next {s u : State} {i : Instr} {c : Bool} {a : Byte}
    (h : exec i s = .next (u.advance.condJump c a)) :
    ∃ v, exec i s = .next (u.setPc v) ∧ JumpsTo u (u.setPc v) c a := by
  obtain ⟨v, hv⟩ := u.advance_condJump c a
  exact ⟨v, hv ▸ h, hv ▸ u.advance_condJump_jumpsTo c a⟩

/-- One without any other effect changes nothing but `pc`. -/
theorem condJumpInstr_result {s : State} {i : Instr} {c : Bool} {a : Byte}
    (h : exec i s = .next (s.advance.condJump c a)) :
    ∃ t, exec i s = .next t ∧ JumpsTo s t c a ∧ ChangesPc s t := by
  obtain ⟨v, hv, hjump⟩ := condJumpInstr_next h
  exact ⟨_, hv, hjump, rfl, fun _ => rfl, fun _ => rfl⟩

theorem beq_zero_eq_decide (v : Byte) : (v == 0) = decide (v.toNat = 0) :=
  (beq_eq_decide v 0).trans (decide_eq_decide.mpr BitVec.toNat_inj.symm)

theorem bne_zero_eq_decide (v : Byte) : (v != 0) = decide (v.toNat ≠ 0) := by
  rw [bne, beq_zero_eq_decide, decide_not]

/-- Settles O21: the seven jumps differ in their condition alone; JZ and JNZ test the accumulator as a number. -/
theorem accumulatorAndFlagJumps : Obligations.AccumulatorAndFlagJumps := by
  intro s a
  refine ⟨fun b => ⟨?bitCode, condJumpInstr_result rfl⟩,
    ⟨encoded_of_encode rfl rfl rfl, condJumpInstr_result rfl⟩,
    ⟨encoded_of_encode rfl rfl rfl, condJumpInstr_result rfl⟩,
    ⟨encoded_of_encode rfl rfl rfl, condJumpInstr_result ?zero⟩,
    ⟨encoded_of_encode rfl rfl rfl, condJumpInstr_result ?notZero⟩,
    ⟨encoded_of_encode rfl rfl rfl, condJumpInstr_result rfl⟩,
    ⟨encoded_of_encode rfl rfl rfl, condJumpInstr_result rfl⟩⟩
  case bitCode =>
    rw [← setWidth_regBits]
    exact encoded_of_encode_highBits 0b10010#5 rfl rfl rfl
  case zero => exact beq_zero_eq_decide s.acc ▸ rfl
  case notZero => exact bne_zero_eq_decide s.acc ▸ rfl

/-- Settles O22: the poll bit and the flag are written before the jump, which then writes `pc` only. -/
theorem inputAndTimerFlagJumps : Obligations.InputAndTimerFlagJumps := by
  intro s a
  refine ⟨⟨encoded_of_encode rfl rfl rfl, condJumpInstr_result rfl⟩,
    ⟨encoded_of_encode rfl rfl rfl, condJumpInstr_result rfl⟩,
    ⟨encoded_of_encode rfl rfl rfl, condJumpInstr_result rfl⟩,
    ⟨encoded_of_encode rfl rfl rfl, condJumpInstr_result rfl⟩,
    ⟨encoded_of_encode rfl rfl rfl, ?jni⟩, ⟨encoded_of_encode rfl rfl rfl, ?jtf⟩⟩
  case jni =>
    obtain ⟨v, hv, hjump⟩ := condJumpInstr_next (s := s) (u := s.notePoll (!s.intIn)) (i := .jni a) rfl
    exact ⟨_, hv, hjump, rfl, rfl, fun _ => rfl, fun _ => rfl⟩
  case jtf =>
    obtain ⟨v, hv, hjump⟩ := condJumpInstr_next (s := s) (u := s.clearTimerFlag) (i := .jtf a) rfl
    exact ⟨_, hv, hjump, rfl, fun _ => rfl, fun _ => rfl⟩

/-- Settles O23: the register is stored before the jump, which then writes `pc` only. -/
theorem djnzResult : Obligations.DjnzResult := by
  intro s r a
  refine ⟨encoded_of_encode rfl (congrArg ([·, a]) (append_regBits_eq_add 0b11101#5 r)) rfl, ?_⟩
  have hexec : exec (.djnzR r a) s = .next
      ((s.setReg r (s.reg r - 1)).advance.condJump (decide ((s.reg r - 1).toNat ≠ 0)) a) :=
    bne_zero_eq_decide (s.reg r - 1) ▸ rfl
  obtain ⟨v, hv, hjump⟩ := condJumpInstr_next hexec
  exact ⟨_, s.reg r - 1, hv, decrement_toNat (s.reg r),
    ⟨rfl, Memory.read_write_same _ _ _, s.writeData_storesOnly _ _⟩, hjump⟩

/-! ## Unconditional jumps -/

/-- An instruction that writes `pc` in a state which differs from `s` in `pc` only changes nothing else. -/
theorem jumpInstr_result {s : State} {i : Instr} {pc v : Addr} {n : Nat}
    (h : exec i s = .next ({ s with pc := pc }.setPc v)) (hv : v.toNat = n) :
    ∃ t, exec i s = .next t ∧ t.pc.toNat = n % pcLimit s ∧ ChangesPc s t :=
  ⟨_, h, hv ▸ State.setPc_pc_toNat _ v, rfl, fun _ => rfl, fun _ => rfl⟩

/-- Settles O24: the two targets as numbers. -/
theorem unconditionalJumps : Obligations.UnconditionalJumps := fun s =>
  ⟨fun h a => ⟨encoded_of_encode_highBits 0b00100#5 rfl rfl rfl, jumpInstr_result rfl (s.bankTarget_toNat h a)⟩,
    encoded_of_encode rfl rfl rfl,
    jumpInstr_result rfl ((inPage_toNat _ _).trans (by rw [State.readProg_inPage]; rfl))⟩

/-! ## The stack entry -/

/-- R34, R67: a push fills the entry that `sp` names with `pc` and the flags. -/
theorem State.push_entryHolds (s : State) : EntryHolds s.push s.sp s.pc s := by
  have hne : stackLow s.sp ≠ stackHigh s.sp := by
    unfold stackLow stackHigh
    omega
  have hlow : s.push.data.read (stackLow s.sp) = s.pc.extractLsb' 0 8 := by
    rw [State.push_read, if_neg hne, if_pos rfl]
  have hhigh : s.push.data.read (stackHigh s.sp) = s.flagsNibble ++ s.pc.extractLsb' 8 4 := by
    rw [State.push_read, if_pos rfl]
  exact ⟨(congrArg BitVec.toNat hlow).trans (BitVec.extractLsb'_toNat _ _ _),
    (congrArg BitVec.toNat hhigh).trans (entryHigh_toNat s s.pc)⟩

theorem State.push_storesOnly (s : State) : StoresOnly (entryBytes s.sp) s s.push := by
  refine ⟨fun a ha => ?_, fun _ => rfl⟩
  obtain ⟨hlow, hhigh⟩ : a ≠ stackLow s.sp ∧ a ≠ stackHigh s.sp := by
    simpa [entryBytes, stackLow, stackHigh] using ha
  exact (s.push_read a).trans (by rw [if_neg hhigh, if_neg hlow]; rfl)

/-- An entry stays as long as its two bytes read as before. -/
theorem EntryHolds.congr {s t u : State} {i : BitVec 3} {ret : Addr} (h : EntryHolds t i ret s)
    (hbytes : ∀ x ∈ entryBytes i, u.readData x = t.readData x) : EntryHolds u i ret s := by
  unfold EntryHolds
  rw [hbytes _ (by simp [entryBytes]), hbytes _ (by simp [entryBytes])]
  exact h

theorem sp_succ_toNat (sp : BitVec 3) : (sp + 1).toNat = (sp.toNat + 1) % 8 := BitVec.toNat_add sp 1

theorem sp_pred_toNat (sp : BitVec 3) : (sp - 1).toNat = (sp.toNat + 7) % 8 := by
  rw [BitVec.toNat_sub, Nat.add_comm]
  rfl

/-- R35: the popped address is the low byte and the low half of the high byte. -/
theorem State.popAddr_toNat (s : State) :
    s.popAddr.toNat = (s.readData (8 + 2 * (s.sp - 1).toNat)).toNat +
      256 * ((s.readData (9 + 2 * (s.sp - 1).toNat)).toNat % 16) := by
  simp only [State.popAddr, State.popHigh, append_toNat, BitVec.extractLsb'_toNat, Nat.shiftRight_zero]
  exact (Nat.add_comm _ _).trans (congrArg _ (Nat.mul_comm _ _))

/-- R35: the popped flags are the high half of the high byte. -/
theorem State.popFlags_toNat (s : State) :
    s.popFlags.toNat = (s.readData (9 + 2 * (s.sp - 1).toNat)).toNat / 16 := by
  have hlt := s.popHigh.isLt
  calc s.popFlags.toNat
    _ = s.popHigh.toNat / 16 % 16 := by rw [State.popFlags, BitVec.extractLsb'_toNat, Nat.shiftRight_eq_div_pow]
    _ = s.popHigh.toNat / 16 := by omega

/-- The four flags read back as the bits they were set from. -/
theorem State.setFlags_flagsNibble (s : State) : ∀ v : BitVec 4, (s.setFlags v).flagsNibble = v :=
  (by decide : ∀ v : BitVec 4, BitVec.ofBool (v.getLsbD 3) ++ BitVec.ofBool (v.getLsbD 2) ++
    BitVec.ofBool (v.getLsbD 1) ++ BitVec.ofBool (v.getLsbD 0) = v)

/-- R219: the return from interrupt sets the four flags to the popped ones. -/
theorem State.returnFromInterrupt_flagsNumber (s : State) :
    flagsNumber s.returnFromInterrupt = s.popFlags.toNat := by
  rw [← State.flagsNibble_toNat]
  exact congrArg BitVec.toNat (s.popSp.setFlags_flagsNibble s.popFlags)

/-! ## CALL, RET and RETR -/

/-- Settles O25: the push happens in the state whose `pc` is the address after the operand byte. -/
theorem callPushesReturnEntry : Obligations.CallPushesReturnEntry := fun s h a =>
  ⟨encoded_of_encode_highBits 0b10100#5 rfl rfl rfl, _, rfl,
    (State.setPc_pc_toNat _ _).trans (congrArg (· % pcLimit s) (s.bankTarget_toNat h a)),
    s.advance2.push_entryHolds, sp_succ_toNat s.sp, rfl, s.advance2.push_storesOnly⟩

/-- Settles O26: the popped address as a number, and no write but those of `sp` and `pc`. -/
theorem retPopsAddressOnly : Obligations.RetPopsAddressOnly := fun s =>
  ⟨encoded_of_encode rfl rfl rfl, _, rfl, sp_pred_toNat s.sp,
    (State.setPc_pc_toNat _ _).trans (congrArg (· % pcLimit s) s.popAddr_toNat), rfl, fun _ => rfl, fun _ => rfl⟩

/-- Settles O27: the popped address is not reduced, and the flags are the popped ones. -/
theorem retrRestoresEntry : Obligations.RetrRestoresEntry := fun s =>
  ⟨encoded_of_encode rfl rfl rfl, _, rfl, sp_pred_toNat s.sp, s.popAddr_toNat,
    s.advance.returnFromInterrupt_flagsNumber.trans s.advance.popFlags_toNat, rfl, rfl, rfl, fun _ => rfl,
    fun _ => rfl⟩

/-- The address part of an entry, as a pop puts it together, is the return address. -/
theorem EntryHolds.address {s t : State} {i : BitVec 3} {ret : Addr} (h : EntryHolds t i ret s) :
    (t.readData (8 + 2 * i.toNat)).toNat + 256 * ((t.readData (9 + 2 * i.toNat)).toNat % 16) = ret.toNat := by
  obtain ⟨hlow, hhigh⟩ := h
  have hlt := ret.isLt
  omega

/-- Settles O28, from O25 for what the CALL leaves in the entry and O26 for what the RET reads from it: outside a
handler nothing of the address is cut off. -/
theorem retAfterCallReturns : Obligations.RetAfterCallReturns := by
  intro s t u h a hcall hsp hbytes hidle
  obtain ⟨-, t', ht', -, hentry, hpush, -⟩ := callPushesReturnEntry s h a
  obtain rfl : t = t' := Host.Outcome.next.inj (hcall.symm.trans ht')
  obtain ⟨-, v, hv, hpop, hpc, -⟩ := retPopsAddressOnly u
  have hback : v.sp = s.sp := by
    apply BitVec.eq_of_toNat_eq
    have hlt := s.sp.isLt
    rw [hpop, hsp, hpush]
    omega
  have hlimit : pcLimit u = 4096 := if_pos hidle
  refine ⟨v, hv, BitVec.eq_of_toNat_eq ?_, hback⟩
  rw [hpc, hback, (hentry.congr hbytes).address, hlimit]
  exact Nat.mod_eq_of_lt (pcAfter2 s).isLt

/-! ## The polled-JNI quirk -/

/-- Outside a handler the operand byte of a 2-byte instruction lies just before the next instruction (R24). -/
theorem pcAfter2_sub_one {s : State} (h : s.irqInProgress = .idle) : pcAfter2 s - 1 = pcAfter1 s := by
  have hnext : pcAfter2 s = pcAfter1 s + 1 := if_pos h
  rw [hnext, BitVec.add_sub_cancel]

/-- Settles O50, from O22: the JNI that falls through sets the poll bit and leaves `pc` after its operand byte. -/
theorem quirkReturnIsJniTarget : Obligations.QuirkReturnIsJniTarget := by
  intro s t a hidle hline hoperand hexec
  obtain ⟨-, -, -, -, ⟨-, t', ht', hjump, hpoll, -, -, hprog⟩, -⟩ := inputAndTimerFlagJumps s a
  obtain rfl : t = t' := Host.Outcome.next.inj (hexec.symm.trans ht')
  rw [hline] at hjump hpoll
  have hpc : t.pc = pcAfter2 s := hjump
  refine ⟨by simpa using hpoll, ?_⟩
  rw [State.quirkReturn, inPage_toNat, hpc, pcAfter2_sub_one hidle, hprog, hoperand]

end Sys2Proof.Machine

/-! PROOFS. The flag, bank and control rules: the flag instructions, the bank selects with the bytes that Rr then names,
the status word as a number and what a write of it leaves, the enables, NOP and the illegal operation. -/

namespace Sys2Proof.Machine

/-! ## Flags and enables -/

/-- Settles O30: each writes its flag in the state after the fetch. -/
theorem flagInstructions : Obligations.FlagInstructions := by
  intro s
  refine ⟨?clrC, ?cplC, ?clrF0, ?cplF0, ?clrF1, ?cplF1⟩
  case clrC | cplC | clrF0 | cplF0 | clrF1 | cplF1 => exact ⟨encoded_of_encode rfl rfl rfl, rfl⟩

/-- Settles O35: each writes its enable in the state after the fetch; DIS TCNTI clears the sticky latch with it. -/
theorem interruptEnables : Obligations.InterruptEnables := by
  intro s
  refine ⟨?enI, ?disI, ?enTcnti, ?disTcnti⟩
  case enI | disI | enTcnti | disTcnti => exact ⟨encoded_of_encode rfl rfl rfl, rfl⟩

/-! ## Bank selects -/

/-- R31, R32: which data byte a register is, by the bank latch. -/
theorem State.regAddr_eq (s : State) (r : Fin 8) : s.regAddr r = if s.bs then 24 + r.val else r.val := by
  rw [State.regAddr, State.rbBase]
  split_ifs
  · rfl
  · exact Nat.zero_add _

/-- Settles O31: the select stores no byte, so `Rr` reads what its new address holds in the state before. -/
theorem registerBankSelect : Obligations.RegisterBankSelect := by
  intro s
  refine ⟨⟨encoded_of_encode rfl rfl rfl, _, rfl, rfl, fun r => ?bank0, fun _ => rfl, fun _ => rfl⟩,
    ⟨encoded_of_encode rfl rfl rfl, _, rfl, rfl, fun r => ?bank1, fun _ => rfl, fun _ => rfl⟩⟩
  case bank0 | bank1 => exact congrArg s.readData (State.regAddr_eq _ r)

/-- Settles O32: the fetch before the select leaves `irqInProgress`, on which the write of the latch depends. -/
theorem programBankSelect : Obligations.ProgramBankSelect := by
  intro s
  refine ⟨?mb0, ?mb1⟩
  case mb0 | mb1 => exact ⟨encoded_of_encode rfl rfl rfl, rfl⟩

/-! ## The status word -/

/-- R28: the status word is the four flags, a 1 and the stack pointer. -/
theorem State.psw_toNat (s : State) : s.psw.toNat = 16 * flagsNumber s + 8 + s.sp.toNat := by
  simp only [State.psw, append_toNat, State.flagsNibble_toNat, BitVec.toNat_ofNat]
  omega

/-- R29: the flags become the high half of the byte. -/
theorem State.setPsw_flagsNumber (s : State) (v : Byte) : flagsNumber (s.setPsw v) = v.toNat / 16 := by
  have hlt := v.isLt
  calc flagsNumber (s.setPsw v)
    _ = (s.setFlags (v.extractLsb' 4 4)).flagsNibble.toNat := (State.flagsNibble_toNat _).symm
    _ = v.toNat / 16 % 16 := by
      rw [State.setFlags_flagsNibble, BitVec.extractLsb'_toNat, Nat.shiftRight_eq_div_pow]
    _ = v.toNat / 16 := by omega

/-- R29: the stack pointer becomes the low three bits of the byte. -/
theorem State.setPsw_sp_toNat (s : State) (v : Byte) : (s.setPsw v).sp.toNat = v.toNat % 8 :=
  BitVec.extractLsb'_toNat 0 3 v

/-- A byte is its high half, bit 3 and its low three bits. -/
theorem highHalf_bit3_low_append (v : Byte) :
    v.extractLsb' 4 4 ++ v.extractLsb' 3 1 ++ v.extractLsb' 0 3 = v :=
  calc v.extractLsb' 4 4 ++ v.extractLsb' 3 1 ++ v.extractLsb' 0 3
    _ = v.extractLsb' 3 5 ++ v.extractLsb' 0 3 :=
      congrArg (· ++ v.extractLsb' 0 3) (BitVec.extractLsb'_append_extractLsb'_eq_extractLsb' rfl)
    _ = v := BitVec.extractLsb'_append_extractLsb'

/-- The OR with 0x08 sets bit 3 and leaves the half above it and the bits below it. -/
theorem or_bit3_eq_append (v : Byte) : v ||| 0x08 = v.extractLsb' 4 4 ++ 1#1 ++ v.extractLsb' 0 3 :=
  calc v ||| 0x08
    _ = (v.extractLsb' 4 4 ++ v.extractLsb' 3 1 ++ v.extractLsb' 0 3) ||| (0#4 ++ BitVec.allOnes 1 ++ 0#3) :=
      congrArg (· ||| 0x08) (highHalf_bit3_low_append v).symm
    _ = v.extractLsb' 4 4 ++ 1#1 ++ v.extractLsb' 0 3 := by
      rw [BitVec.or_append, BitVec.or_append, BitVec.or_zero, BitVec.or_zero, BitVec.or_allOnes]
      rfl

/-- R28, R29: the status word reads back what was written, with bit 3 set. -/
theorem State.setPsw_psw (s : State) (v : Byte) : (s.setPsw v).psw = v ||| 0x08 := by
  have hflags : (s.setPsw v).flagsNibble = v.extractLsb' 4 4 := s.setFlags_flagsNibble _
  rw [State.psw, hflags, State.setPsw_sp, or_bit3_eq_append]

/-- Settles O33: the status word read, and the flags and the stack pointer written, as numbers. -/
theorem statusWordMoves : Obligations.StatusWordMoves := by
  intro s
  refine ⟨⟨encoded_of_encode rfl rfl rfl, ?read⟩, ⟨encoded_of_encode rfl rfl rfl, ?write⟩⟩
  case read =>
    obtain ⟨t, ht, hacc, hrest⟩ := accInstr_result (s := s) (i := .movAPsw) rfl
    exact ⟨t, ht, hacc ▸ s.psw_toNat, hrest⟩
  case write =>
    exact ⟨_, rfl, s.advance.setPsw_flagsNumber s.acc, s.advance.setPsw_sp_toNat s.acc, rfl, rfl, fun _ => rfl,
      fun _ => rfl⟩

/-- Settles O34: the fetch of the second instruction leaves the status word as the first one wrote it. -/
theorem statusWordReadsBack : Obligations.StatusWordReadsBack := fun s =>
  ⟨_, _, rfl, rfl, s.advance.setPsw_psw s.acc⟩

/-! ## NOP and the illegal operation -/

theorem illegalOpcodes_cycles : ∀ p ∈ illegalOpcodes, p.2.cycles = 1 := by decide

/-- R104: every illegal opcode is a 1-byte instruction of one cycle. -/
theorem illegalOpcodes_encoded {p : Byte × Instr} (hp : p ∈ illegalOpcodes) : Encoded p.2 [p.1] 1 := by
  obtain ⟨hlen, hdecode⟩ := illegalOpcodes_decode p hp
  exact ⟨by rw [decode_one hlen, hdecode], illegalOpcodes_cycles p hp⟩

/-- R247: the 26 arms are the one illegal operation, each with its own opcode, as the two evaluate alike on the list. -/
theorem exec_illegalOpcodes (s : State) : ∀ p ∈ illegalOpcodes, exec p.2 s = .next (s.illegalOp p.1) :=
  List.map_inj_left.mp (show illegalOpcodes.map (exec ·.2 s) = illegalOpcodes.map (.next <| s.illegalOp ·.1) from rfl)

/-- Settles O36: NOP is the fetch alone, and the illegal operation adds the one event to it. -/
theorem nopAndIllegalResults : Obligations.NopAndIllegalResults := fun s =>
  ⟨⟨encoded_of_encode rfl rfl rfl, rfl⟩,
    fun p hp => ⟨illegalOpcodes_encoded hp, exec_illegalOpcodes s p hp⟩⟩

end Sys2Proof.Machine

/-! PROOFS. The timer, port and unsupported rules: the timer instructions with the history that STRT CNT seeds, the port
reads and writes, and the refusal of each unsupported instruction by the opcode byte that its encoding begins with. -/

namespace Sys2Proof.Machine

/-! ## The timer instructions -/

/-- R261: the seeded history is the present level of T1 below a 0. -/
theorem seedHistory_toNat (level : Bool) : (0b0#1 ++ BitVec.ofBool level).toNat = level.toNat := by
  cases level <;> rfl

/-- STRT CNT in a unit that counts already leaves the unit as it is (R261). -/
theorem exec_strtCnt_counting {s : State} (h : s.mode = .counter) :
    exec .strtCnt s = .next { s with pc := pcAfter1 s } := by
  change execStrtCnt s = _
  rw [execStrtCnt, if_pos h, ← h]
  rfl

/-- STRT CNT in any other mode seeds the history with the level of T1 before its own cycle (R261). -/
theorem exec_strtCnt_entering {s : State} (h : s.mode ≠ .counter) :
    exec .strtCnt s =
      .next { s with pc := pcAfter1 s, mode := .counter, t1History := 0b0#1 ++ BitVec.ofBool s.t1In } := by
  change execStrtCnt s = _
  rw [execStrtCnt, if_neg h]
  rfl

/-- Settles O38: STRT CNT depends on the mode it starts in; the others write one part of the unit or of `acc` in the
state after the fetch. -/
theorem timerInstructions : Obligations.TimerInstructions := by
  intro s
  refine ⟨?strtT, ⟨encoded_of_encode rfl rfl rfl, exec_strtCnt_counting, fun hmode => ?entering⟩,
    ?stopTcnt, ?movAT, ?movTA⟩
  case entering => exact ⟨_, exec_strtCnt_entering hmode, seedHistory_toNat s.t1In, rfl⟩
  case strtT | stopTcnt | movAT | movTA => exact ⟨encoded_of_encode rfl rfl rfl, rfl⟩

/-! ## The port instructions -/

/-- Settles O39: the fetch of one or two bytes leaves the latches, the pins and the trace as the read or the write of
the port finds them. -/
theorem portInstructions : Obligations.PortInstructions := by
  intro s
  refine ⟨?inP1, ?inP2, ?outlP1, ?outlP2, fun d => ⟨?anlP1, ?anlP2, ?orlP1, ?orlP2⟩⟩
  case inP1 | inP2 | outlP1 | outlP2 | anlP1 | anlP2 | orlP1 | orlP2 => exact ⟨encoded_of_encode rfl rfl rfl, rfl⟩

/-! ## The unsupported instructions -/

/-- The port expander's four ports are P4 to P7 (R275). -/
theorem portOk_four_add (k : Fin 4) : portOk (4 + k.val) = true := by
  revert k
  decide

/-- An opcode with a port field is the opcode of port 4 plus the distance from port 4. -/
theorem append_portBits_eq_add (h : BitVec 6) (k : Fin 4) :
    h ++ portBits (4 + k.val) = (h ++ 0#2) + BitVec.ofNat 8 k.val := by
  apply BitVec.eq_of_toNat_eq
  simp only [append_toNat, BitVec.toNat_add, BitVec.toNat_ofNat, portBits]
  omega

/-- R269: an instruction that is refused with the opcode byte `op` of its own encoding, where `byte` is `op` written in
another form. -/
theorem unsupported_of_encode {s : State} {i : Instr} {op byte : Byte} {operands : List Byte} {n : Nat}
    (hbyte : op = byte) (hwf : i.wf = true) (hencode : encode i = op :: operands) (hcycles : i.cycles = n)
    (hexec : exec i s = .refused (.unsupported op s.pc)) :
    Encoded i (byte :: operands) n ∧ exec i s = .refused (.unsupported byte s.pc) := by
  subst hbyte
  exact ⟨encoded_of_encode hwf hencode hcycles, hexec⟩

/-- Settles O40: an opcode without a field is its own byte, and one with a pointer or port field is the first opcode of
its row plus the field. -/
theorem unsupportedInstructionsRefused : Obligations.UnsupportedInstructionsRefused := by
  intro s
  refine ⟨fun r => ?movx, ?outlBus, ?insBus, fun d => ⟨?orlBus, ?anlBus⟩,
    fun k => ⟨?movdRead, ?movdWrite, ?orld, ?anld⟩, ?ent0⟩
  case movx => exact unsupported_of_encode (append_ptrBits_eq_add 0b1001000#7 r) rfl rfl rfl rfl
  case outlBus | insBus | orlBus | anlBus | ent0 => exact unsupported_of_encode rfl rfl rfl rfl rfl
  case movdRead => exact unsupported_of_encode (append_portBits_eq_add 0b000011#6 k) (portOk_four_add k) rfl rfl rfl
  case movdWrite => exact unsupported_of_encode (append_portBits_eq_add 0b001111#6 k) (portOk_four_add k) rfl rfl rfl
  case orld => exact unsupported_of_encode (append_portBits_eq_add 0b100011#6 k) (portOk_four_add k) rfl rfl rfl
  case anld => exact unsupported_of_encode (append_portBits_eq_add 0b100111#6 k) (portOk_four_add k) rfl rfl rfl

end Sys2Proof.Machine

/-! PROOFS. The timer/counter unit: what a number of ticks does to the counter and its overflow bits, and from it timer
mode, event-counter mode and the stopped unit after any number of cycles. -/

namespace Sys2Proof.Machine

/-! ## What a tick does -/

/-- A word wraps to 0 from its greatest value. -/
theorem word_succ_eq_zero_iff {w : Nat} (x : BitVec w) : x + 1#w = 0#w ↔ x.toNat + 1 = 2 ^ w := by
  have hlt := x.isLt
  rw [← BitVec.toNat_inj, BitVec.toNat_add, BitVec.toNat_ofNat, BitVec.toNat_ofNat, Nat.add_mod_mod, Nat.zero_mod]
  constructor
  · intro h
    exact Nat.le_antisymm hlt (Nat.le_of_dvd (Nat.succ_pos _) (Nat.dvd_of_mod_eq_zero h))
  · intro h
    rw [h, Nat.mod_self]

/-- Settles O41: the wrap is the tick from 255. -/
theorem counterTickEffects : Obligations.CounterTickEffects := fun s =>
  ⟨BitVec.toNat_add s.timerCounter 1, by simp [word_succ_eq_zero_iff], by simp [word_succ_eq_zero_iff], rfl⟩

/-- `t` has the counter of `s` after `k` ticks (R306): the overflow bits record whether one of them was a wrap. -/
structure Ticked (s : State) (k : Nat) (t : State) : Prop where
  counter : t.timerCounter.toNat = (s.timerCounter.toNat + k) % 256
  flag : t.timerFlag = true ↔ s.timerFlag = true ∨ 256 ≤ s.timerCounter.toNat + k
  latch : t.timerOverflow = true ↔
    s.timerOverflow = true ∨ (s.tirqEnabled = true ∧ 256 ≤ s.timerCounter.toNat + k)
  enable : t.tirqEnabled = s.tirqEnabled

/-- No tick: nothing of the counter has changed. -/
theorem Ticked.zero {s t : State} (hcounter : t.timerCounter = s.timerCounter) (hflag : t.timerFlag = s.timerFlag)
    (hlatch : t.timerOverflow = s.timerOverflow) (henable : t.tirqEnabled = s.tirqEnabled) : Ticked s 0 t := by
  have hlt := s.timerCounter.isLt
  have hno : ¬256 ≤ s.timerCounter.toNat + 0 := by omega
  refine ⟨?_, by simp only [hflag, hno, or_false], by simp only [hlatch, hno, and_false, or_false], henable⟩
  rw [hcounter, Nat.add_zero, Nat.mod_eq_of_lt hlt]

/-- Ticks add up: one of `k + l` ticks is a wrap if one of the first `k` is or one of the last `l`. -/
theorem Ticked.trans {s t u : State} {k l : Nat} (h : Ticked s k t) (h' : Ticked t l u) : Ticked s (k + l) u := by
  have hlt := s.timerCounter.isLt
  have hcounter := h.counter
  have hwrap : 256 ≤ s.timerCounter.toNat + (k + l) ↔
      256 ≤ s.timerCounter.toNat + k ∨ 256 ≤ t.timerCounter.toNat + l := by omega
  refine ⟨?counter, ?flag, ?latch, h'.enable.trans h.enable⟩
  case counter =>
    rw [h'.counter]
    omega
  case flag => rw [h'.flag, h.flag, hwrap, or_assoc]
  case latch => rw [h'.latch, h.latch, h.enable, hwrap, and_or_left, or_assoc]

/-- One tick more. -/
theorem Ticked.counterTick {s t : State} {k : Nat} (h : Ticked s k t) : Ticked s (k + 1) t.counterTick := by
  obtain ⟨hcounter, hflag, hlatch, -⟩ := counterTickEffects t
  have hlt := t.timerCounter.isLt
  have hwrap : 256 ≤ t.timerCounter.toNat + 1 ↔ t.timerCounter.toNat = 255 := by omega
  exact h.trans ⟨hcounter, by rw [hflag, hwrap], by rw [hlatch, hwrap, and_comm], rfl⟩

/-! ## Timer mode -/

/-- `t` is `s` after `n` cycles of the unit in timer mode (R304): one tick for each time the prescaler came to 0. -/
structure Timed (s : State) (n : Nat) (t : State) : Prop where
  prescaler : t.prescaler.toNat = (s.prescaler.toNat + n) % 32
  ticks : Ticked s ((s.prescaler.toNat + n) / 32) t
  history : t.t1History = s.t1History

theorem Timed.refl (s : State) : Timed s 0 s := by
  have hlt := s.prescaler.isLt
  have hnone : (s.prescaler.toNat + 0) / 32 = 0 := by omega
  exact ⟨by omega, by rw [hnone]; exact .zero rfl rfl rfl rfl, rfl⟩

/-- Cycles add up, since 32 cycles are one tick wherever they are cut. -/
theorem Timed.trans {s t u : State} {m n : Nat} (h : Timed s m t) (h' : Timed t n u) : Timed s (m + n) u := by
  have hprescaler := h.prescaler
  have hticks : (s.prescaler.toNat + m) / 32 + (t.prescaler.toNat + n) / 32 = (s.prescaler.toNat + (m + n)) / 32 := by
    omega
  refine ⟨?_, hticks ▸ h.ticks.trans h'.ticks, h'.history.trans h.history⟩
  rw [h'.prescaler]
  omega

/-- R304: the one cycle that ticks is the one that takes the prescaler from 31 to 0. -/
theorem State.oneCycle_timed {s : State} (h : s.mode = .timer) : Timed s 1 s.oneCycle := by
  have hcycle : s.oneCycle = s.addCycle.timerCycle := by simp [State.oneCycle, h]
  have hnext : (s.prescaler + 1).toNat = (s.prescaler.toNat + 1) % 32 := BitVec.toNat_add _ _
  have hwrap : s.prescaler + 1 = 0 ↔ s.prescaler.toNat + 1 = 2 ^ 5 := word_succ_eq_zero_iff s.prescaler
  rw [hcycle]
  rcases s.addCycle.timerCycle_cases with ⟨hzero, ht⟩ | ⟨hnonzero, ht⟩ <;> rw [ht]
  · have hlast := hwrap.mp hzero
    have hone : (s.prescaler.toNat + 1) / 32 = 1 := by omega
    exact ⟨hnext, by rw [hone]; exact Ticked.counterTick (.zero rfl rfl rfl rfl), rfl⟩
  · have hlt := s.prescaler.isLt
    have hbefore := mt hwrap.mpr hnonzero
    have hnone : (s.prescaler.toNat + 1) / 32 = 0 := by omega
    exact ⟨hnext, by rw [hnone]; exact .zero rfl rfl rfl rfl, rfl⟩

/-- R303, R304: accounting in timer mode, by induction on the number of cycles. -/
theorem State.account_timed {s : State} (h : s.mode = .timer) (n : Nat) : Timed s n (s.account n) := by
  induction n generalizing s with
  | zero => exact .refl s
  | succ n ih =>
    have hcycles := (State.oneCycle_timed h).trans (ih (by rw [State.oneCycle_mode, h]))
    rwa [Nat.add_comm 1 n] at hcycles

/-- Settles O42: the prescaler and the ticks as the induction gives them; the T1 history, which accounting may write, is
kept. -/
theorem timerModeAccounting : Obligations.TimerModeAccounting := by
  intro s n hmode
  obtain ⟨hprescaler, ⟨hcounter, hflag, hlatch, -⟩, hhistory⟩ := State.account_timed hmode n
  refine ⟨hprescaler, hcounter, hflag, hlatch, hhistory, (s.account_frame n).trans ?_⟩
  rw [hhistory]

/-! ## Event-counter mode -/

/-- R41: the history after a sample, as a number. -/
theorem shiftHistory_toNat (h : BitVec 2) (sample : Bool) :
    (shiftHistory h sample).toNat = 2 * (h.toNat % 2) + sample.toNat := by
  revert h sample
  decide

/-- R305: the pattern `0b10` is a falling edge. -/
theorem shiftHistory_eq_falling_iff (h : BitVec 2) (sample : Bool) :
    shiftHistory h sample = 0b10 ↔ h.toNat % 2 = 1 ∧ sample = false := by
  revert h sample
  decide

/-- R305: the sample taken after the next cycle completes a falling edge. -/
def State.edgeFalls (s : State) : Prop := s.t1History.toNat % 2 = 1 ∧ s.addCycle.t1In = false

/-- What an event-counter cycle does (R305): the sample is shifted in, and a falling edge ticks the counter. -/
theorem State.oneCycle_counter {s : State} (h : s.mode = .counter) :
    s.oneCycle.prescaler = s.prescaler ∧ s.oneCycle.t1History = shiftHistory s.t1History s.addCycle.t1In ∧
      ∃ k, Ticked s k s.oneCycle ∧ ((s.edgeFalls ∧ k = 1) ∨ (¬s.edgeFalls ∧ k = 0)) := by
  have hcycle : s.oneCycle = s.addCycle.counterCycle := by simp [State.oneCycle, h]
  rw [State.edgeFalls, ← shiftHistory_eq_falling_iff, hcycle]
  rcases s.addCycle.counterCycle_cases with ⟨hfalls, ht⟩ | ⟨hno, ht⟩ <;> rw [ht]
  · exact ⟨rfl, rfl, 1, Ticked.counterTick (.zero rfl rfl rfl rfl), .inl ⟨hfalls, rfl⟩⟩
  · exact ⟨rfl, rfl, 0, .zero rfl rfl rfl rfl, .inr ⟨hno, rfl⟩⟩

theorem State.account_counter_prescaler {s : State} (h : s.mode = .counter) (n : Nat) :
    (s.account n).prescaler = s.prescaler := by
  induction n generalizing s with
  | zero => rfl
  | succ n ih => exact (ih (by rw [State.oneCycle_mode, h])).trans (State.oneCycle_counter h).1

/-- Settles O43: a cycle ticks the counter once on a falling edge and not at all otherwise, so a wrap takes an edge and
a counter at 255. -/
theorem counterModeCycle : Obligations.CounterModeCycle := by
  intro s hmode
  obtain ⟨hprescaler, hhistory, k, hticked, hk⟩ := State.oneCycle_counter hmode
  have hlt := s.timerCounter.isLt
  have hwrap : 256 ≤ s.timerCounter.toNat + k ↔
      s.t1History.toNat % 2 = 1 ∧ s.addCycle.t1In = false ∧ s.timerCounter.toNat = 255 := by
    rw [← and_assoc, ← State.edgeFalls]
    rcases hk with ⟨hfalls, rfl⟩ | ⟨hno, rfl⟩
    · rw [and_iff_right hfalls]
      omega
    · rw [iff_false_right (fun h => hno h.1)]
      omega
  have hframe := s.oneCycle_frame
  rw [hprescaler] at hframe
  refine ⟨s.oneCycle_cycles, hprescaler, ?history, ?counter, hticked.flag.trans (or_congr_right hwrap),
    hticked.latch.trans (or_congr_right (and_congr_right' hwrap)), hframe, fun n => ⟨rfl, ?accounting⟩⟩
  case history =>
    rw [hhistory]
    exact shiftHistory_toNat _ _
  case counter =>
    rw [hticked.counter]
    rcases hk with ⟨hfalls, rfl⟩ | ⟨hno, rfl⟩
    · exact (if_pos hfalls).symm
    · exact (Nat.mod_eq_of_lt hlt).trans (if_neg hno).symm
  case accounting =>
    have haccount := s.account_frame n
    rw [State.account_counter_prescaler hmode n] at haccount
    exact haccount

/-! ## The stopped unit -/

/-- Settles O44, by induction on the number of cycles. -/
theorem stoppedUnitOnlyCountsCycles : Obligations.StoppedUnitOnlyCountsCycles := by
  intro s n hmode
  induction n generalizing s with
  | zero => rfl
  | succ n ih =>
    have hcycle : s.oneCycle = s.addCycle := by simp [State.oneCycle, hmode]
    calc s.account (n + 1)
      _ = s.addCycle.account n := congrArg (State.account · n) hcycle
      _ = { s.addCycle with cycles := s.addCycle.cycles + n } := ih s.addCycle hmode
      _ = { s with cycles := s.cycles + (n + 1) } := by
        rw [State.addCycle_cycles, Nat.add_assoc, Nat.add_comm 1 n]
        rfl

end Sys2Proof.Machine

/-! PROOFS. The step rules: a step as the fetched instruction and its end, what a step costs, which steps are
refused, and that a timer overflow with its interrupt disabled is lost. -/

namespace Sys2Proof.Machine

/-! ## The step and its instruction -/

theorem step_of_exec_next {s t : State} (h : exec s.fetchInstr s.beginStep = .next t) :
    step s = .next (t.endStep s.fetchInstr.cycles) := by
  rw [step, h]

theorem step_of_exec_refused {s : State} {r : Refusal} (h : exec s.fetchInstr s.beginStep = .refused r) :
    step s = .refused r := by
  rw [step, h]

/-- Decoding the two bytes at `pc` gives the fetched instruction, whether or not it takes the second (R24, R90). -/
theorem fetchInstr_of_decode {s : State} {i : Instr} {rest : List Byte}
    (h : decode [s.readProg s.pc, s.readProg (s.incPc s.pc)] = .ok i rest) : s.fetchInstr = i := by
  rw [State.fetchInstr]
  rcases encodeGivesDecodedBytesBack (s.readProg s.pc) 0 with ⟨-, ⟨hlen, -⟩ | ⟨hlen, -⟩⟩
  · rw [decode_one hlen] at h
    injection h with hi
    exact (decodeOp_operand hlen _).trans hi
  · rw [decode_two hlen] at h
    injection h

/-- Settles O6: the decoded instruction is the fetched one. -/
theorem stepRunsDecodedInstruction : Obligations.StepRunsDecodedInstruction := by
  intro s i rest hdecode _
  obtain rfl := fetchInstr_of_decode hdecode
  exact ⟨fun _ => step_of_exec_next, fun _ => step_of_exec_refused⟩

/-! ## The cost of a step -/

theorem fetchInstr_cycles (s : State) : s.fetchInstr.cycles = 1 ∨ s.fetchInstr.cycles = 2 := by
  rw [State.fetchInstr, (lengthsAndCyclesOfOpcodes _ _).2]
  split_ifs
  · exact .inr rfl
  · exact .inl rfl

/-- R303: no instruction counts its own cycles. -/
theorem Effect.cycles_eq {s t : State} {i : Instr} (h : Effect s i t) : t.cycles = s.cycles := by
  cases h with
  | port _ p b => exact s.outPort_cycles p b
  | _ => rfl

/-- R312, R313: an entry of either source accounts two cycles. -/
theorem State.checkInterrupts_cycles (s : State) :
    s.checkInterrupts.cycles = s.cycles ∨
      (s.checkInterrupts.cycles = s.cycles + 2 ∧ s.checkInterrupts.irqInProgress ≠ .idle) := by
  rcases s.checkInterrupts_cases with ⟨-, -, h⟩ | ⟨-, -, -, h⟩ | h <;> rw [h]
  · rw [State.enterExternal, State.enterExternalWith_eq]
    exact .inr ⟨s.account_cycles 2, fun h => nomatch h⟩
  · rw [State.enterTimer_eq]
    exact .inr ⟨s.account_cycles 2, fun h => nomatch h⟩
  · exact .inl rfl

/-- Settles O9: the instruction itself counts no cycle, so the count grows by the accounting and by an entry. -/
theorem stepCost : Obligations.StepCost := by
  intro s t h
  obtain ⟨u, hu, rfl⟩ := step_next_cases s h
  have hcycles : (u.account s.fetchInstr.cycles).cycles = s.cycles + s.fetchInstr.cycles := by
    rw [State.account_cycles, (exec_effect hu).cycles_eq]
    rfl
  rw [← hcycles]
  exact ⟨fetchInstr_cycles s, State.checkInterrupts_cycles _⟩

/-! ## The refused steps -/

/-- R269: the 23 unsupported opcodes are refused, whatever byte follows. -/
theorem exec_unsupportedOpcodes (b2 : Byte) (s : State) :
    ∀ op ∈ unsupportedOpcodes, exec (decodeOp op b2) s = .refused (.unsupported op s.pc) :=
  List.map_inj_left.mp (show unsupportedOpcodes.map (fun op => exec (decodeOp op b2) s) =
    unsupportedOpcodes.map (.refused <| .unsupported · s.pc) from rfl)

/-- The opcodes of MOVD, ORLD and ANLD, for each of the four ports (R275 to R278). -/
theorem expanderOpcodes_unsupported : ∀ h ∈ [0b000011#6, 0b001111#6, 0b100011#6, 0b100111#6], ∀ x : BitVec 2,
    h ++ x ∈ unsupportedOpcodes := by decide

/-- The opcodes of MOVX @Rr,A (R270). -/
theorem movxWriteOpcodes_unsupported : ∀ x : BitVec 1, 0b1001000#7 ++ x ∈ unsupportedOpcodes := by decide

/-- R302: an instruction that has no successor state begins with one of the 23 unsupported opcodes. -/
theorem exec_next_or_unsupported (i : Instr) (s : State) :
    (∃ t, exec i s = .next t) ∨ ∃ op ∈ unsupportedOpcodes, ∃ operands, encode i = op :: operands := by
  cases i with
  | movxIndA r => exact .inr ⟨_, movxWriteOpcodes_unsupported (ptrBits r), _, rfl⟩
  | movdAPp p | movdPpA p | orldPpA p | anldPpA p =>
    exact .inr ⟨_, expanderOpcodes_unsupported _ (by decide) (portBits p), _, rfl⟩
  | outlBusA | insABus | orlBusImm | anlBusImm | ent0Clk => exact .inr ⟨_, by decide, _, rfl⟩
  | _ => exact .inl ⟨_, rfl⟩

/-- R91: the encoding of a decoded instruction begins with the opcode it was decoded from. -/
theorem encode_decodeOp_head {op b2 op' : Byte} {operands : List Byte}
    (h : encode (decodeOp op b2) = op' :: operands) : op = op' := by
  rcases encodeGivesDecodedBytesBack op b2 with ⟨-, ⟨-, hencode⟩ | ⟨-, hencode⟩⟩ <;>
    exact (List.cons.inj (hencode.symm.trans h)).1

/-- Settles O10: outside the 23 opcodes the encoding of the fetched instruction cannot begin with one of them. -/
theorem stepRefusesExactlyUnsupported : Obligations.StepRefusesExactlyUnsupported := by
  intro s
  refine ⟨fun hmem => step_of_exec_refused (exec_unsupportedOpcodes _ s.beginStep _ hmem), fun hmem => ?_⟩
  rcases exec_next_or_unsupported s.fetchInstr s.beginStep with ⟨t, ht⟩ | ⟨op, hop, operands, hencode⟩
  · exact ⟨_, step_of_exec_next ht⟩
  · exact absurd (encode_decodeOp_head hencode ▸ hop) hmem

/-! ## The masked overflow -/

/-- The timer interrupt is disabled and no request of it is latched. -/
structure TimerMasked (s : State) : Prop where
  disabled : s.tirqEnabled = false
  unlatched : s.timerOverflow = false

/-- R307: every instruction but EN TCNTI keeps the mask. -/
theorem TimerMasked.effect {s t : State} {i : Instr} (hs : TimerMasked s) (h : Effect s i t) (hi : i ≠ .enTcnti) :
    TimerMasked t := by
  obtain ⟨hdisabled, hunlatched⟩ := hs
  cases h with
  | enableTimer => exact absurd rfl hi
  | disableTimer => exact ⟨rfl, rfl⟩
  | port => exact ⟨by simpa using hdisabled, by simpa using hunlatched⟩
  | _ => exact ⟨hdisabled, hunlatched⟩

/-- R307: a wrap in a masked cycle latches nothing. -/
theorem TimerMasked.account {s : State} (hs : TimerMasked s) (n : Nat) : TimerMasked (s.account n) where
  disabled := (s.account_tirqEnabled n).trans hs.disabled
  unlatched := by
    rw [← Bool.not_eq_true]
    intro hlatched
    rcases s.account_overflow n hlatched with h | h
    · exact absurd hs.unlatched (by simp [h])
    · exact absurd hs.disabled (by simp [h])

/-- A masked timer has no entry, and the external entry's own two cycles latch nothing. -/
theorem TimerMasked.checkInterrupts {s : State} (hs : TimerMasked s) : TimerMasked s.checkInterrupts := by
  rcases s.checkInterrupts_cases with ⟨-, -, h⟩ | ⟨-, -, htimer, -⟩ | h
  · rw [h, State.enterExternal, State.enterExternalWith_eq]
    exact ⟨(hs.account 2).disabled, (hs.account 2).unlatched⟩
  · rw [hs.disabled] at htimer
    cases htimer
  · rwa [h]

theorem decodeOp_eq_enTcnti {op b2 : Byte} (h : decodeOp op b2 = .enTcnti) : op = 0x25 :=
  encode_decodeOp_head (congrArg encode h)

/-- Settles O45: the instruction, the accounting and the boundary check each keep the mask. -/
theorem maskedOverflowIsLost : Obligations.MaskedOverflowIsLost := by
  intro s t h hdisabled hop hunlatched
  obtain ⟨u, hu, rfl⟩ := step_next_cases s h
  have hs : TimerMasked s.beginStep := ⟨hdisabled, hunlatched⟩
  have hi : s.fetchInstr ≠ .enTcnti := mt decodeOp_eq_enTcnti hop
  have ht := ((hs.effect (exec_effect hu) hi).account s.fetchInstr.cycles).checkInterrupts
  exact ⟨ht.unlatched, ht.disabled⟩

end Sys2Proof.Machine

/-! PROOFS. The interrupt rules: which entry the boundary check makes, the entry that both sources share, and the RETR
that undoes it. -/

namespace Sys2Proof.Machine

/-! ## The boundary check -/

theorem State.checkInterrupts_external {s : State} (hidle : s.irqInProgress = .idle) (hx : s.xirqEnabled = true)
    (hline : s.intIn = true) : s.checkInterrupts = s.enterExternal := by
  simp [State.checkInterrupts, hidle, hx, hline]

theorem State.checkInterrupts_timer {s : State} (hidle : s.irqInProgress = .idle)
    (hx : ¬(s.xirqEnabled = true ∧ s.intIn = true)) (ht : s.tirqEnabled = true) (hlatch : s.timerOverflow = true) :
    s.checkInterrupts = s.enterTimer := by
  simp [State.checkInterrupts, hidle, hx, ht, hlatch]

theorem State.checkInterrupts_none {s : State} (hx : ¬(s.xirqEnabled = true ∧ s.intIn = true))
    (ht : ¬(s.tirqEnabled = true ∧ s.timerOverflow = true)) : s.checkInterrupts = s := by
  simp [State.checkInterrupts, hx, ht]

/-- Settles O46: the four cases are the branches of the boundary check. -/
theorem interruptRecognition : Obligations.InterruptRecognition := fun _ =>
  ⟨State.checkInterrupts_busy, State.checkInterrupts_external, State.checkInterrupts_timer,
    fun _ => State.checkInterrupts_none⟩

/-! ## Interrupt entry -/

/-- `s` after an entry for `irq` that saves `ret` and goes to `vector`: what the two entries share (R312, R313). -/
def State.interrupted (s : State) (irq : IrqState) (ret vector : Addr) : State :=
  (((s.account 2).setIrq irq).loadPc ret).vectorTo vector

/-- The return address that the external entry saves, if `JNI_POLL_QUIRK` is `quirk` (R314). -/
def State.externalReturn (s : State) (quirk : Bool) : Addr :=
  if quirk = true ∧ s.irqLastPollResult = true then s.quirkReturn else s.pc

/-- R314: the quirk loads `pc` and nothing else. -/
theorem State.applyQuirk_eq (s : State) (quirk : Bool) : s.applyQuirk quirk = s.loadPc (s.externalReturn quirk) := by
  have hboth : (s.irqLastPollResult && quirk) = true ↔ quirk = true ∧ s.irqLastPollResult = true := by
    rw [Bool.and_eq_true, and_comm]
  by_cases hquirk : quirk = true ∧ s.irqLastPollResult = true
  · rw [State.externalReturn, if_pos hquirk]
    exact if_pos (hboth.mpr hquirk)
  · rw [State.externalReturn, if_neg hquirk]
    exact if_neg (mt hboth.mp hquirk)

/-- R314: the quirk reads `pc`, the poll bit and the program store, which the accounting leaves. -/
theorem State.externalReturn_account (s : State) (quirk : Bool) (irq : IrqState) :
    ((s.account 2).setIrq irq).externalReturn quirk = s.externalReturn quirk := by
  simp [State.externalReturn, State.quirkReturn, State.readProg]

/-- R312, R314: the external entry is the shared one. -/
theorem State.enterExternal_eq (s : State) :
    s.enterExternal = s.interrupted .external (s.externalReturn Config.jniPollQuirk) vecExternal := by
  unfold State.enterExternal State.enterExternalWith State.interrupted
  rw [State.applyQuirk_eq, State.externalReturn_account]

/-- R313: the timer entry is the shared one with `pc` as it stands, and the sticky latch cleared after it. -/
theorem State.enterTimer_eq_interrupted (s : State) :
    s.enterTimer = (s.interrupted .timer s.pc vecTimer).clearOverflow := by
  have hload : ((s.account 2).setIrq .timer).loadPc s.pc = (s.account 2).setIrq .timer := by
    rw [← s.account_pc 2]
    rfl
  rw [State.enterTimer, State.interrupted, hload]

section
variable (s : State) (irq : IrqState) (ret vector : Addr)

/-- R34, R317: the entry that `sp` named holds the return address and the flags. -/
theorem State.interrupted_entryHolds : EntryHolds (s.interrupted irq ret vector) s.sp ret s := by
  have hentry := (((s.account 2).setIrq irq).loadPc ret).push_entryHolds
  have hsp : (((s.account 2).setIrq irq).loadPc ret).sp = s.sp := s.account_sp 2
  have hflags : flagsNumber (((s.account 2).setIrq irq).loadPc ret) = flagsNumber s := by simp [flagsNumber]
  unfold EntryHolds at hentry ⊢
  rw [hsp, hflags] at hentry
  exact hentry

/-- R34, R317: no byte but the two of the entry is stored. -/
theorem State.interrupted_storesOnly : StoresOnly (entryBytes s.sp) s (s.interrupted irq ret vector) := by
  have hstores := (((s.account 2).setIrq irq).loadPc ret).push_storesOnly
  unfold StoresOnly State.readData State.readProg at hstores ⊢
  simpa [State.interrupted] using hstores

/-- `t` holds of the program interrupted in `s` what its RETR needs: the entry that `s.sp` named, with the return
address `ret`, below the stack pointer, and the bank latch in the shadow (R317). -/
structure Saved (s : State) (ret : Addr) (t : State) : Prop where
  entry : EntryHolds t s.sp ret s
  sp : t.sp = s.sp + 1
  shadow : t.a11Shadow = s.a11

theorem State.interrupted_saved : Saved s ret (s.interrupted irq ret vector) where
  entry := s.interrupted_entryHolds irq ret vector
  sp := congrArg (· + 1) (s.account_sp 2)
  shadow := s.account_a11 2

end

/-- Settles O47: the entry is the shared one, with the return address that the quirk decides. -/
theorem externalEntryEffects : Obligations.ExternalEntryEffects := by
  intro s hidle hx hline
  rw [State.checkInterrupts_external hidle hx hline, State.enterExternal_eq]
  have hsaved := s.interrupted_saved .external (s.externalReturn Config.jniPollQuirk) vecExternal
  exact ⟨_, rfl, rfl, rfl, hsaved.shadow, rfl, by rw [hsaved.sp, sp_succ_toNat], hsaved.entry,
    s.interrupted_storesOnly _ _ _, rfl⟩

/-- Settles O48: the entry is the shared one with `pc` itself, and then the sticky latch is cleared. -/
theorem timerEntryEffects : Obligations.TimerEntryEffects := by
  intro s hidle hx ht hlatch
  rw [State.checkInterrupts_timer hidle hx ht hlatch, State.enterTimer_eq_interrupted]
  have hsaved := s.interrupted_saved .timer s.pc vecTimer
  exact ⟨_, rfl, rfl, rfl, hsaved.shadow, rfl, rfl, by rw [State.clearOverflow_sp, hsaved.sp, sp_succ_toNat],
    hsaved.entry, s.interrupted_storesOnly .timer s.pc vecTimer, rfl⟩

/-! ## RETR after an entry -/

theorem boolToNat_injective : Function.Injective Bool.toNat := by decide

/-- The flags of an entry are determined by their number. -/
theorem flags_eq_of_flagsNumber_eq {s t : State} (h : flagsNumber t = flagsNumber s) :
    t.cy = s.cy ∧ t.ac = s.ac ∧ t.f0 = s.f0 ∧ t.bs = s.bs := by
  unfold flagsNumber at h
  have hs : s.ac.toNat ≤ 1 ∧ s.f0.toNat ≤ 1 ∧ s.bs.toNat ≤ 1 := ⟨s.ac.toNat_le, s.f0.toNat_le, s.bs.toNat_le⟩
  have ht : t.ac.toNat ≤ 1 ∧ t.f0.toNat ≤ 1 ∧ t.bs.toNat ≤ 1 := ⟨t.ac.toNat_le, t.f0.toNat_le, t.bs.toNat_le⟩
  refine ⟨?cy, ?ac, ?f0, ?bs⟩
  case cy | ac | f0 | bs => exact boolToNat_injective (by omega)

/-- What is saved stays saved as long as the stack pointer, the shadow and the two bytes of the entry do. -/
theorem Saved.congr {s t u : State} {ret : Addr} (h : Saved s ret t) (hsp : u.sp = t.sp)
    (hshadow : u.a11Shadow = t.a11Shadow) (hbytes : ∀ x ∈ entryBytes s.sp, u.readData x = t.readData x) :
    Saved s ret u :=
  ⟨h.entry.congr hbytes, hsp.trans h.sp, hshadow.trans h.shadow⟩

/-- R219, R319: RETR restores what is saved. -/
theorem Saved.retr {s u : State} {ret : Addr} (h : Saved s ret u) :
    ∃ v, exec .retr u = .next v ∧ v.irqInProgress = .idle ∧ v.a11 = s.a11 ∧ v.sp = s.sp ∧
      v.cy = s.cy ∧ v.ac = s.ac ∧ v.f0 = s.f0 ∧ v.bs = s.bs ∧ v.pc = ret := by
  obtain ⟨-, v, hv, hpop, hpc, hflags, ha11, hidle, -⟩ := retrRestoresEntry u
  have hback : v.sp = s.sp := by
    apply BitVec.eq_of_toNat_eq
    rw [hpop, ← sp_pred_toNat, h.sp, BitVec.add_sub_cancel]
  rw [hback] at hpc hflags
  have hret : v.pc = ret := BitVec.eq_of_toNat_eq (hpc.trans h.entry.address)
  have hnumber : flagsNumber v = flagsNumber s := by
    obtain ⟨-, hhigh⟩ := h.entry
    have hlt := ret.isLt
    omega
  obtain ⟨hcy, hac, hf0, hbs⟩ := flags_eq_of_flagsNumber_eq hnumber
  exact ⟨v, hv, hidle, ha11.trans h.shadow, hback, hcy, hac, hf0, hbs, hret⟩

/-- What the boundary check saves when it enters an interrupt: only the external entry knows the quirk (R313, R314). -/
theorem State.checkInterrupts_saved {s : State} (hidle : s.irqInProgress = .idle)
    (hentered : s.checkInterrupts.irqInProgress ≠ .idle) :
    Saved s (if s.checkInterrupts.irqInProgress = .external ∧ Config.jniPollQuirk = true ∧ s.irqLastPollResult = true
      then s.quirkReturn else s.pc) s.checkInterrupts := by
  rcases s.checkInterrupts_cases with ⟨-, -, h⟩ | ⟨-, -, -, h⟩ | h <;> rw [h] at hentered ⊢
  · have hexternal : s.enterExternal.irqInProgress = .external := by rw [State.enterExternal_eq]; rfl
    have hret : (if s.enterExternal.irqInProgress = .external ∧ Config.jniPollQuirk = true ∧ s.irqLastPollResult = true
        then s.quirkReturn else s.pc) = s.externalReturn Config.jniPollQuirk :=
      if_congr (and_iff_right hexternal) rfl rfl
    rw [hret, State.enterExternal_eq]
    exact s.interrupted_saved _ _ _
  · have htimer : s.enterTimer.irqInProgress ≠ .external := fun h => nomatch h
    rw [if_neg (fun h => htimer h.1), State.enterTimer_eq_interrupted]
    obtain ⟨hentry, hsp, hshadow⟩ := s.interrupted_saved .timer s.pc vecTimer
    exact ⟨hentry, hsp, hshadow⟩
  · exact absurd hidle hentered

/-- Settles O49: what the entry saved is still saved when the handler ends. -/
theorem retrAfterEntryRestores : Obligations.RetrAfterEntryRestores := by
  rintro s _ u hidle rfl hentered hsp hshadow hbytes
  exact ((State.checkInterrupts_saved hidle hentered).congr hsp hshadow hbytes).retr

end Sys2Proof.Machine

/-! PROOFS. The reset and session rules: what a RESET leaves, that nothing in a step reads the cycle debt, and from it
that consecutive runs add up and meet their budget. -/

namespace Sys2Proof.Machine

/-! ## The RESET event -/

/-- R28, R352: after a RESET the fixed bit 3 is the only bit set. -/
theorem State.applyReset_psw (s : State) : s.applyReset.psw = 0x08 :=
  show State.reset.psw = 0x08 from by decide

/-- Settles O56: every field is that of `State.reset`, but the two memories and the trace, which are the old ones. -/
theorem resetEventValues : Obligations.ResetEventValues := fun _ =>
  ⟨_, rfl, rfl, rfl, rfl, rfl, rfl, rfl, rfl, rfl, rfl, rfl, rfl, rfl, rfl, rfl, rfl, rfl, rfl, rfl, rfl, rfl, rfl, rfl,
    rfl, rfl, State.applyReset_psw _, rfl, fun _ => rfl, fun _ => rfl⟩

/-! ## Results in a row -/

/-- Goes on with `k` from the next state, if there is one: the `match` of `step`, `runTo` and `run` on a result. -/
def Result.andThen (r : Result) (k : State → Result) : Result :=
  match r with
  | .next t => k t
  | .fault f => .fault f
  | .refused r => .refused r

@[simp] theorem Result.andThen_next (t : State) (k : State → Result) : Result.andThen (.next t) k = k t := rfl

theorem Result.andThen_assoc (r : Result) (k l : State → Result) :
    (r.andThen k).andThen l = r.andThen fun t => (k t).andThen l := by
  cases r <;> rfl

theorem Result.andThen_congr {r : Result} {k l : State → Result} (h : ∀ t, r = .next t → k t = l t) :
    r.andThen k = r.andThen l := by
  cases r with
  | next t => exact h t rfl
  | fault | refused => rfl

theorem Result.andThen_eq_next {r : Result} {k : State → Result} {t : State} (h : r.andThen k = .next t) :
    ∃ u, r = .next u ∧ k u = .next t := by
  cases r with
  | next u => exact ⟨u, rfl, h⟩
  | fault | refused => cases h

/-! ## The cycle debt is host bookkeeping -/

/-- `cycle_debt <- d` (R370). -/
def State.withDebt (d : Nat) (s : State) : State := { s with cycleDebt := d }

section
variable (d : Nat) (s : State)

theorem State.condJump_withDebt (c : Bool) (a : Byte) : (s.withDebt d).condJump c a = (s.condJump c a).withDebt d := by
  rw [State.condJump, State.condJump, apply_ite (State.withDebt d)]
  rfl

theorem State.timerCycle_withDebt : (s.withDebt d).timerCycle = s.timerCycle.withDebt d := by
  rw [State.timerCycle, State.timerCycle, apply_ite (State.withDebt d)]
  rfl

theorem State.counterCycle_withDebt : (s.withDebt d).counterCycle = s.counterCycle.withDebt d := by
  rw [State.counterCycle, State.counterCycle, apply_ite (State.withDebt d)]
  rfl

theorem State.oneCycle_withDebt : (s.withDebt d).oneCycle = s.oneCycle.withDebt d := by
  have hmode : (s.withDebt d).mode = s.mode := rfl
  unfold State.oneCycle
  rw [hmode]
  cases s.mode with
  | off => rfl
  | timer => exact s.addCycle.timerCycle_withDebt d
  | counter => exact s.addCycle.counterCycle_withDebt d

theorem State.account_withDebt (n : Nat) : (s.withDebt d).account n = (s.account n).withDebt d := by
  induction n generalizing s with
  | zero => rfl
  | succ n ih => rw [State.account, State.oneCycle_withDebt, ih, State.account]

theorem State.applyQuirk_withDebt (q : Bool) : (s.withDebt d).applyQuirk q = (s.applyQuirk q).withDebt d := by
  rw [State.applyQuirk, State.applyQuirk, apply_ite (State.withDebt d)]
  rfl

theorem State.enterExternal_withDebt : (s.withDebt d).enterExternal = s.enterExternal.withDebt d := by
  unfold State.enterExternal State.enterExternalWith
  rw [State.account_withDebt]
  exact congrArg (State.vectorTo · vecExternal) (State.applyQuirk_withDebt d ((s.account 2).setIrq .external) _)

theorem State.enterTimer_withDebt : (s.withDebt d).enterTimer = s.enterTimer.withDebt d := by
  unfold State.enterTimer
  rw [State.account_withDebt]
  rfl

theorem State.checkInterrupts_withDebt : (s.withDebt d).checkInterrupts = s.checkInterrupts.withDebt d := by
  unfold State.checkInterrupts
  rw [State.enterExternal_withDebt, State.enterTimer_withDebt, apply_ite (State.withDebt d),
    apply_ite (State.withDebt d), apply_ite (State.withDebt d)]
  rfl

/-- Each arm of `exec` passes the debt through; a conditional jump does so on both of its paths. -/
theorem exec_withDebt (i : Instr) :
    exec i (s.withDebt d) = Result.andThen (exec i s) fun t => .next (t.withDebt d) := by
  cases i with
  | jbb | jc | jnc | jz | jnz | jf0 | jf1 | jt0 | jnt0 | jt1 | jnt1 | jni | jtf | djnzR =>
    change _ = Host.Outcome.next ((State.condJump _ _ _).withDebt d)
    rw [← State.condJump_withDebt]
    rfl
  | _ => rfl

theorem State.endStep_withDebt (n : Nat) : (s.withDebt d).endStep n = (s.endStep n).withDebt d := by
  rw [State.endStep, State.account_withDebt, State.checkInterrupts_withDebt, State.endStep]

theorem step_eq_exec_andThen :
    step s = Result.andThen (exec s.fetchInstr s.beginStep) fun t => .next (t.endStep s.fetchInstr.cycles) := rfl

/-- No rule of the block reads the debt: a step leaves it, and does the same from any value of it (R370). -/
theorem step_withDebt : step (s.withDebt d) = Result.andThen (step s) fun t => .next (t.withDebt d) := by
  have hfetch : (s.withDebt d).fetchInstr = s.fetchInstr := rfl
  have hbegin : (s.withDebt d).beginStep = s.beginStep.withDebt d := rfl
  simp only [step_eq_exec_andThen, hfetch, hbegin, exec_withDebt, Result.andThen_assoc, Result.andThen_next,
    State.endStep_withDebt]

end

/-! ## The loop of a run -/

/-- R300: a step costs 1 to 4 cycles. -/
theorem step_cycles_bounds {s t : State} (h : step s = .next t) : s.cycles < t.cycles ∧ t.cycles ≤ s.cycles + 4 := by
  obtain ⟨hinstr, hentry⟩ := stepCost s t h
  omega

theorem runTo_of_le {target fuel : Nat} {s : State} (h : target ≤ s.cycles) : runTo target fuel s = .next s := by
  cases fuel with
  | zero => rfl
  | succ fuel => rw [runTo_succ, if_neg (by omega)]

theorem runTo_of_lt {target fuel : Nat} {s : State} (h : s.cycles < target) :
    runTo target (fuel + 1) s = Result.andThen (step s) (runTo target fuel) := by
  rw [runTo_succ, if_pos h]
  rfl

/-- More fuel than one unit for each missing cycle changes nothing, since every step costs at least one. -/
theorem runTo_fuel {target fuel fuel' : Nat} {s : State} (h : target - s.cycles ≤ fuel)
    (h' : target - s.cycles ≤ fuel') : runTo target fuel s = runTo target fuel' s := by
  induction fuel generalizing fuel' s with
  | zero => rw [runTo_of_le (by omega), runTo_of_le (by omega)]
  | succ fuel ih =>
    rcases Nat.lt_or_ge s.cycles target with hlt | hge
    · obtain ⟨fuel', rfl⟩ := Nat.exists_eq_add_one_of_ne_zero (show fuel' ≠ 0 by omega)
      rw [runTo_of_lt hlt, runTo_of_lt hlt]
      refine Result.andThen_congr fun t ht => ?_
      have hcycles := step_cycles_bounds ht
      exact ih (by omega) (by omega)
    · rw [runTo_of_le hge, runTo_of_le hge]

/-- The loop of `Run` with all the fuel it can use: whole steps until the cycle count reaches `target` (R370). -/
def runUntil (target : Nat) (s : State) : Result := runTo target (target - s.cycles) s

theorem runUntil_of_le {target : Nat} {s : State} (h : target ≤ s.cycles) : runUntil target s = .next s :=
  runTo_of_le h

theorem runUntil_of_lt {target : Nat} {s : State} (h : s.cycles < target) :
    runUntil target s = Result.andThen (step s) (runUntil target) := by
  obtain ⟨fuel, hfuel⟩ := Nat.exists_eq_add_of_lt h
  rw [runUntil, show target - s.cycles = fuel + 1 by omega, runTo_of_lt h]
  refine Result.andThen_congr fun t ht => ?_
  have hcycles := step_cycles_bounds ht
  exact runTo_fuel (by omega) le_rfl

/-- The induction along the loop: the states that have reached the target, and those that a turn takes closer to it. -/
theorem runUntil_induction {target : Nat} {P : State → Prop} (done : ∀ s : State, target ≤ s.cycles → P s)
    (turn : ∀ s : State, s.cycles < target → (∀ t, step s = .next t → P t) → P s) (s : State) : P s := by
  induction hmissing : target - s.cycles using Nat.strong_induction_on generalizing s with
  | _ missing ih =>
    rcases Nat.lt_or_ge s.cycles target with hlt | hge
    · refine turn s hlt fun t ht => ih _ ?_ t rfl
      have hcycles := step_cycles_bounds ht
      omega
    · exact done s hge

/-- A loop to a later target passes through the state in which the earlier one is met. -/
theorem runUntil_trans {target target' : Nat} (h : target ≤ target') (s : State) :
    runUntil target' s = (runUntil target s).andThen (runUntil target') := by
  induction s using runUntil_induction (target := target) with
  | done s hge => rw [runUntil_of_le hge, Result.andThen_next]
  | turn s hlt ih => rw [runUntil_of_lt hlt, runUntil_of_lt (by omega), Result.andThen_assoc, Result.andThen_congr ih]

theorem runUntil_withDebt (target d : Nat) (s : State) :
    runUntil target (s.withDebt d) = (runUntil target s).andThen fun t => .next (t.withDebt d) := by
  induction s using runUntil_induction (target := target) with
  | done s hge =>
    rw [runUntil_of_le hge, Result.andThen_next]
    exact runUntil_of_le hge
  | turn s hlt ih =>
    rw [runUntil_of_lt hlt, runUntil_of_lt (s := s.withDebt d) hlt, step_withDebt, Result.andThen_assoc,
      Result.andThen_assoc]
    exact Result.andThen_congr ih

/-- The loop ends at its target or at most 3 cycles after it, the last step's overshoot. -/
theorem runUntil_cycles {target : Nat} {s t : State} (hs : s.cycles ≤ target + 3) (h : runUntil target s = .next t) :
    target ≤ t.cycles ∧ t.cycles ≤ target + 3 := by
  induction s using runUntil_induction (target := target) with
  | done s hge =>
    rw [runUntil_of_le hge] at h
    cases h
    exact ⟨hge, hs⟩
  | turn s hlt ih =>
    rw [runUntil_of_lt hlt] at h
    obtain ⟨u, hu, ht⟩ := Result.andThen_eq_next h
    have hcycles := step_cycles_bounds hu
    exact ih u hu (by omega) ht

/-! ## The run -/

/-- The end of a run whose budget ends at `target`: the overshoot becomes the debt (R370). -/
def State.settle (target : Nat) (s : State) : State := s.withDebt (s.cycles - target)

theorem run_of_le_debt {n : Nat} {s : State} (h : n ≤ s.cycleDebt) :
    run n s = .next (s.withDebt (s.cycleDebt - n)) := if_pos h

theorem run_of_debt_lt {n target : Nat} {s : State} (h : s.cycleDebt < n)
    (htarget : s.cycles + n = target + s.cycleDebt) :
    run n s = (runUntil target s).andThen fun t => .next (t.settle target) := by
  obtain rfl : target = s.cycles + (n - s.cycleDebt) := by omega
  rw [runUntil, Nat.add_sub_cancel_left]
  exact if_neg (Nat.not_le.mpr h)

/-- The debt before a run moves its target and nothing else: the loop from `s.withDebt d` is that from `s`. -/
theorem run_withDebt_of_lt {d n target : Nat} {s : State} (h : d < n) (htarget : s.cycles + n = target + d) :
    run n (s.withDebt d) = (runUntil target s).andThen fun t => .next (t.settle target) := by
  rw [run_of_debt_lt h htarget, runUntil_withDebt, Result.andThen_assoc]
  rfl

/-- A run after one whose budget ended at `target` has its budget end `n` cycles later. -/
theorem run_settle {target : Nat} {s : State} (h : target ≤ s.cycles) (n : Nat) :
    run n (s.settle target) = (runUntil (target + n) s).andThen fun t => .next (t.settle (target + n)) := by
  rcases Nat.lt_or_ge (s.cycles - target) n with hlt | hge
  · exact run_withDebt_of_lt hlt (by omega)
  · rw [runUntil_of_le (by omega), run_of_le_debt hge]
    exact congrArg (fun d => Host.Outcome.next (s.withDebt d)) (Nat.sub_sub s.cycles target n)

/-- Paying off `a` cycles of debt first leaves the run the rest of it. -/
theorem run_withDebt_sub {a : Nat} {s : State} (h : a ≤ s.cycleDebt) (b : Nat) :
    run b (s.withDebt (s.cycleDebt - a)) = run (a + b) s := by
  rcases Nat.lt_or_ge (s.cycleDebt - a) b with hlt | hge
  · have htarget : s.cycles + (a + b) = s.cycles + (a + b - s.cycleDebt) + s.cycleDebt := by omega
    rw [run_of_debt_lt (by omega) htarget]
    exact run_withDebt_of_lt hlt (by omega)
  · rw [run_of_le_debt (n := a + b) (by omega), run_of_le_debt hge]
    exact congrArg (fun d => Host.Outcome.next (s.withDebt d)) (Nat.sub_sub s.cycleDebt a b)

/-- Settles O58: a first run that only pays debt leaves the rest of it to the second; otherwise the loop of the joint
run passes through the state at which the first run ends. -/
theorem runSplits : Obligations.RunSplits := by
  intro a b s
  change run (a + b) s = (run a s).andThen (run b)
  rcases Nat.lt_or_ge s.cycleDebt a with hlt | hge
  · obtain ⟨target, htarget⟩ := Nat.exists_eq_add_of_le' (show s.cycleDebt ≤ s.cycles + a by omega)
    rw [run_of_debt_lt (by omega) (show s.cycles + (a + b) = target + b + s.cycleDebt by omega),
      runUntil_trans (Nat.le_add_right target b), run_of_debt_lt hlt htarget, Result.andThen_assoc,
      Result.andThen_assoc]
    exact Result.andThen_congr fun t ht => (run_settle (runUntil_cycles (by omega) ht).1 b).symm
  · rw [run_of_le_debt hge, Result.andThen_next, run_withDebt_sub hge]

/-- Settles O59: a run that enters the loop ends at its budget or up to 3 cycles after it, and the debt is that
overshoot. -/
theorem runMeetsBudget : Obligations.RunMeetsBudget := by
  intro n s t h
  rcases Nat.lt_or_ge s.cycleDebt n with hlt | hge
  · obtain ⟨target, htarget⟩ := Nat.exists_eq_add_of_le' (show s.cycleDebt ≤ s.cycles + n by omega)
    rw [run_of_debt_lt hlt htarget] at h
    obtain ⟨u, hu, ht⟩ := Result.andThen_eq_next h
    obtain ⟨hlow, hhigh⟩ := runUntil_cycles (by omega) hu
    cases ht
    change u.cycles + s.cycleDebt = s.cycles + n + (u.cycles - target) ∧ (_ → u.cycles - target ≤ 3)
    omega
  · rw [run_of_le_debt hge] at h
    cases h
    change s.cycles + s.cycleDebt = s.cycles + n + (s.cycleDebt - n) ∧ (_ → s.cycleDebt - n ≤ 3)
    omega

end Sys2Proof.Machine
